-- ==== Sys2Proof/Word.lean ====
section
/-! DEFINITION. The word types of the CL32: bytes on the line, words of exchange memory, identities. -/

namespace Sys2Proof

/-- A byte of a telegram or of a slot body (00_scope "Words and bytes"). -/
abbrev Byte := BitVec 8

/-- A word of exchange memory or of the register window, the width of one bus access. -/
abbrev Word := BitVec 16

/-- A car identity; 0 means unprofiled (00_scope "Quantities and units"). -/
abbrev Ident := BitVec 32

end Sys2Proof
end

