-- ==== Sys2Proof/Syntax.lean ====
section
/-! DEFINITION. The commands of the CL32: one constructor per row of spec/opcode_table.json. -/

namespace Sys2Proof

/-- The two coupler line ports, one at each car end (00_scope "Car ends"). -/
inductive Port where
  | p1
  | p2
  deriving DecidableEq, Repr

/-- The two car-local sides (00_scope "Sides"). -/
inductive Side where
  | left
  | right
  deriving DecidableEq, Repr

/-- The six pages in the order of their numbers 0..5 (11.2). -/
inductive PageId where
  | link
  | consist
  | motion
  | door
  | heat
  | monitor
  deriving DecidableEq, Repr

/-- The two phases of the axle encoder (R76). -/
inductive EncPhase where
  | a
  | b
  deriving DecidableEq, Repr

/-- The 16-byte telegram header as it stands on the line (11.6). -/
structure Header where
  kind : Byte
  /-- Bits 3..0 class, bits 7..4 mode. -/
  classMode : Byte
  hops : Byte
  gen : Byte
  srcPos : Byte
  dstLo : Byte
  dstHi : Byte
  flags : Byte
  seq : Word
  plen : Word
  srcId : Ident
  deriving DecidableEq, Repr

/-- A telegram: header and the payload bytes received or sent after it (R1, 11.6). -/
structure Telegram where
  hdr : Header
  payload : List Byte
  deriving DecidableEq, Repr

/-- The commands and events the CL32 takes, in the order of the table. A slot command carries its slot
`n`, the tag of its request and the bytes of its body (11.3); a telegram row carries the receiving port
and the telegram. -/
inductive Instr where
  /-- POWER_ON_RESET (R181). -/
  | powerOnReset
  /-- RESET_PIN (R181). -/
  | resetPin
  /-- IFRESET (R182): a CONTROL write of `w` with bit 15 set. -/
  | ifreset (w : Word)
  /-- SCAN (R164): a CONTROL write of `w` with IFRESET 0. -/
  | scan (w : Word)
  /-- DELIVER (R164): a CONTROL write of `w` with IFRESET 0. -/
  | deliver (w : Word)
  /-- CAUSE_CLEAR (R165): a write of `w` to CAUSE. -/
  | causeClear (w : Word)
  /-- CAUSE_ENABLE_WRITE (R165). -/
  | causeEnableWrite (w : Word)
  /-- REGISTER_WRITE_IGNORED (R163): a write to register number `n`. -/
  | registerWriteIgnored (n : BitVec 3) (w : Word)
  /-- MEMORY_WRITE (R166): a bus write to exchange memory. -/
  | memoryWrite (a : BitVec 14) (w : Word)
  /-- DRAIN_WRITE (R176): a bus write to the drain word of queue `q`. -/
  | drainWrite (q : Fin 4) (w : Word)
  /-- HOLD_SET (R173): a bus write with bit 0 set to the HOLD word of page `p`. -/
  | holdSet (p : PageId) (w : Word)
  /-- HOLD_RELEASE (R173): a bus write with bit 0 clear to the HOLD word of page `p`. -/
  | holdRelease (p : PageId) (w : Word)
  /-- SCAN_PASS (R168). -/
  | scanPass
  /-- ADOPT_PROFILE (R179). -/
  | adoptProfile (n : Fin 16) (tag : Byte)
  /-- SET_CAB (R24). -/
  | setCab (n : Fin 16) (tag : Byte) (cabEnd : Byte)
  /-- START_SWEEP (R27). -/
  | startSweep (n : Fin 16) (tag : Byte)
  /-- SEND (R69). -/
  | send (n : Fin 16) (tag : Byte) (cls mode lo hi flags : Byte) (plen : Word) (payload : List Byte)
  /-- DOOR (R102). -/
  | door (n : Fin 16) (tag : Byte) (action scope side lo hi number attest : Byte)
  /-- HEAT_SET (R129). -/
  | heatSet (n : Fin 16) (tag : Byte) (setpoint : Word) (gain boost : Byte)
  /-- BUDGET (R147). -/
  | budget (n : Fin 16) (tag : Byte) (b vlow : Word)
  /-- MONITOR (R133). -/
  | monitor (n : Fin 16) (tag : Byte) (start stop mode : Byte)
  /-- RESTORE_LINK (R17). -/
  | restoreLink (n : Fin 16) (tag : Byte) (port : Byte)
  /-- ABANDON (R171): the request ABANDON with this tag in slot `n`. -/
  | abandon (n : Fin 16) (tag : Byte)
  /-- MARK_DUE (R4). -/
  | markDue (p : Port)
  /-- FRAME_END (R5). -/
  | frameEnd (p : Port)
  /-- MARK_RECEIVED (R3): a mark whose frame check is correct, with its content. -/
  | markReceived (p : Port) (ident : Ident) (carEnd : Byte)
  /-- FRAMING_ERROR (R2). -/
  | framingError (p : Port)
  /-- FRAME_CHECK_FAILURE (R2). -/
  | frameCheckFailure (p : Port)
  /-- SILENCE_TIMER_EXPIRY (R8, R9). -/
  | silenceTimerExpiry (p : Port)
  /-- QUALITY_WINDOW_END (R11): the windows of both ports end at the same moments (R6). -/
  | qualityWindowEnd
  /-- SWEEP (R32). -/
  | sweepTelegram (p : Port) (t : Telegram)
  /-- RETURN (R35). -/
  | returnTelegram (p : Port) (t : Telegram)
  /-- SWEEP_FAIL (R37). -/
  | sweepFailTelegram (p : Port) (t : Telegram)
  /-- CONFIRM (R36). -/
  | confirmTelegram (p : Port) (t : Telegram)
  /-- DISSOLVE (R44). -/
  | dissolveTelegram (p : Port) (t : Telegram)
  /-- BEACON (R42). -/
  | beaconTelegram (p : Port) (t : Telegram)
  /-- BREAK (R47). -/
  | breakTelegram (p : Port) (t : Telegram)
  /-- JOIN (R47). -/
  | joinTelegram (p : Port) (t : Telegram)
  /-- DOOR_TELEGRAM (R101). -/
  | doorTelegram (p : Port) (t : Telegram)
  /-- SUMMARY (R115). -/
  | summaryTelegram (p : Port) (t : Telegram)
  /-- DEMAND (R142). -/
  | demandTelegram (p : Port) (t : Telegram)
  /-- GRANT (R154). -/
  | grantTelegram (p : Port) (t : Telegram)
  /-- DATA (R58). -/
  | dataTelegram (p : Port) (t : Telegram)
  /-- RETURN_TIMER_EXPIRY (R38). -/
  | returnTimerExpiry
  /-- CARRY_TIMER_EXPIRY (R39). -/
  | carryTimerExpiry
  /-- BEACON_PERIOD_EXPIRY (R41). -/
  | beaconPeriodExpiry
  /-- BEACON_WATCH_EXPIRY (R42). -/
  | beaconWatchExpiry
  /-- SETTLE_TIMER_EXPIRY (R47). -/
  | settleTimerExpiry
  /-- AGE_TIMER_EXPIRY (R119). -/
  | ageTimerExpiry
  /-- ENCODER_TRANSITION (R76): the named phase alone changes its qualified level. -/
  | encoderTransition (ph : EncPhase)
  /-- ILLEGAL_TRANSITION (R77): both phases change. -/
  | illegalTransition
  /-- MOTION_WINDOW_END (R79). -/
  | motionWindowEnd
  /-- CONTACT_MAKES (R90): door number is `d` + 1. -/
  | contactMakes (side : Side) (d : Fin 4)
  /-- CONTACT_OPENS (R90). -/
  | contactOpens (side : Side) (d : Fin 4)
  /-- TICK (R164). -/
  | tick
  /-- CLOSE_LIMIT_REACHED (R91). -/
  | closeLimitReached (side : Side) (d : Fin 4)
  /-- GRANT_EXPIRY (R155). -/
  | grantExpiry
  /-- CYCLE_START (R157). -/
  | cycleStart
  /-- REFERENCE_PHASE_COMPLETE (R124), with the time base at the 4,096th edge. -/
  | referencePhaseComplete (timeBase : BitVec 20)
  /-- REFERENCE_ABORT (R124). -/
  | referenceAbort
  /-- SENSOR_PHASE_END (R125), with the measurement counter at Tref. -/
  | sensorPhaseEnd (count : Word)
  /-- MEASURE_OVERFLOW (R125). -/
  | measureOverflow
  /-- PERIOD_TIMER_EXPIRY (R134). -/
  | periodTimerExpiry
  /-- SCAN_COMPLETE (R134), with the codes that AIN0..AIN3 convert to; those of the range are used. -/
  | scanComplete (c0 c1 c2 c3 : BitVec 12)
  deriving DecidableEq, Repr

end Sys2Proof
end

