-- ==== Sys2Proof/Decode.lean ====
section
/-! DEFINITION. Commands spelled by words: no row of spec/opcode_table.json gives bits ("fields": [] in
every row), so no word spells one. -/

namespace Sys2Proof

/-- The command that a word of `nbits` bits spells by the table's bits: none, since the table gives bits
for no row. -/
def decodeTableWord (_nbits _w : Nat) : Option Instr := none

end Sys2Proof
end

