-- ==== Sys2Proof/Config.lean ====
section
/-! DEFINITION. What the part fixes (constants of the chapters) and the free values: header bytes the spec leaves open. -/

namespace Sys2Proof.Config

/-- IDENT: family code 0x32, revision 0x01 (11.2). -/
def ident : Word := 0x3201

/-- Cells of the shared pool (R50). -/
def poolCells : Nat := 256

/-- Cells held back for SAFETY telegrams (R51, R61). -/
def safetyReserve : Nat := 24

/-- Largest payload of a telegram in bytes (R1). -/
def maxPayload : Nat := 464

/-- Largest body of a command slot in bytes (R169). -/
def maxBody : Nat := 480

/-- Most cars of a consist (R21). -/
def maxCars : Nat := 32

/-- Beacon numbers run 0..59999 (R20). -/
def beaconModulus : Nat := 60000

/-- Valid marks that settle a link (R8). -/
def settleMarks : Nat := 20

/-- Ticks after which a fresh grant lapses (R155). -/
def grantTicks : Nat := 300

/-- Ticks up to which a TLV result is usable (R146). -/
def tlvTicks : Nat := 100

/-- Passes the round robin of one offer may need; R65 bounds the additions for one class by 15, and
two steps are made for each addition. -/
def drrFuel : Nat := 64

/-- FREE VALUE (log entry 10): destination low byte of the n-th originated telegram in a mode whose
destination fields the spec leaves open (ALL and LEAD, R52, R74). -/
opaque openDstLo : Nat → Byte

/-- FREE VALUE (log entry 10): destination high byte of the n-th originated telegram in a mode that
leaves it open (ALL, LEAD and NEIGHBOUR, R52). -/
opaque openDstHi : Nat → Byte

/-- FREE VALUE (log entry 10): hops byte of the local copy of the n-th originated telegram; R59 gives
hops only for a copy sent toward a side. -/
opaque localHops : Nat → Byte

end Sys2Proof.Config
end

