-- ==== Sys2Proof/Machine/State.lean ====
section
/-! DEFINITION. The state of the CL32 as plain data, block by block, and the state after reset. -/

namespace Sys2Proof.Machine

/-- The machine never stops with a fault: the spec names none (log entry 30), so this type is empty. -/
inductive Fault where
  deriving DecidableEq, Repr

/-- A refusal is the model's, not the device's. -/
inductive Refusal where
  /-- Raised by exec for a row without a meaning; no arm uses it. Safe: the model stops where the
  device goes on. -/
  | notModelled (mnemonic : String)
  deriving DecidableEq, Repr

/-- Four like things: doors of a side, class queues, drop counts, supply channels, delivery queues. -/
structure Quad (α : Type) where
  x0 : α
  x1 : α
  x2 : α
  x3 : α
  deriving DecidableEq, Repr

/-- The same thing four times. -/
def Quad.const {α : Type} (a : α) : Quad α := ⟨a, a, a, a⟩

/-- A millisecond timer: stopped, or running since the tick it was started or restarted at
(log entry 6). -/
inductive Timer where
  | stopped
  | running (since : Word)
  deriving DecidableEq, Repr

/-! ## Codes shared by the blocks -/

/-- The four telegram classes, in code order (11.6). -/
inductive Cls where
  | safety
  | control
  | power
  | service
  deriving DecidableEq, Repr

/-- The five addressing modes, in code order (11.6). -/
inductive Mode where
  | neighbour
  | position
  | range
  | all
  | lead
  deriving DecidableEq, Repr

/-- The thirteen telegram kinds (11.6). -/
inductive Kind where
  | sweep
  | ret
  | sweepFail
  | confirm
  | dissolve
  | beacon
  | brk
  | join
  | door
  | summary
  | demand
  | grant
  | data
  deriving DecidableEq, Repr

/-! ## Live profile (R178) -/

/-- Heater modes (R158). -/
inductive HeaterMode where
  | quad
  | dual
  deriving DecidableEq, Repr

/-- The live profile (R178). -/
structure Profile where
  identity : Ident := 0
  doorsLeft : Nat := 0
  doorsRight : Nat := 0
  cab1 : Bool := false
  cab2 : Bool := false
  sensor : Bool := false
  z : Nat := 2
  r : Nat := 0
  f : Nat := 0
  s : Nat := 0
  mode : HeaterMode := .quad
  closeLimit : Nat := 10
  otLimit : Nat := 0
  otHyst : Nat := 0
  hcuScale : Nat := 0
  q : Nat := 8
  powerWeight : Nat := 8
  serviceWeight : Nat := 2
  limSafety : Nat := 64
  limControl : Nat := 96
  limPower : Nat := 64
  limService : Nat := 96
  deriving DecidableEq, Repr

/-! ## Coupler line ports (R6) and the relay's queues (R50) -/

/-- Link states, in code order (11.8). -/
inductive LinkState where
  | dead
  | settling
  | up
  | faulted
  deriving DecidableEq, Repr

/-- Link causes (R16). -/
inductive LinkCause where
  | firstMark
  | settled
  | silence
  | newNeighbour
  | quality
  | clean
  | restore
  deriving DecidableEq, Repr

/-- A queued telegram: its class and, for a copy of a SEND of this car, the mark of that SEND (R50, R67,
log entry 34). -/
structure QTel where
  cls : Cls
  tel : Telegram
  origin : Option Nat
  deriving DecidableEq, Repr

/-- What a transmitter is doing (R6; the abort sequence of R15 is log entry 22). -/
inductive Transmit where
  | idle
  | mark (ident : Ident)
  | telegram (q : QTel)
  | abort
  deriving DecidableEq, Repr

/-- The two classes of the round robin (R65). -/
inductive DrrTurn where
  | power
  | service
  deriving DecidableEq, Repr

/-- One port: the link record of R6 and the port's share of the relay state of R50. -/
structure LinkPort where
  state : LinkState := .dead
  nbrId : Ident := 0
  nbrEnd : Byte := 0
  settle : Nat := 0
  silence : Timer := .stopped
  winErr : Word := 0
  lastErr : Word := 0
  badRun : Nat := 0
  cleanRun : Nat := 0
  tx : Transmit := .idle
  markDue : Bool := false
  drops : Quad Word := Quad.const 0
  queues : Quad (List QTel) := Quad.const []
  defPower : Nat := 0
  defService : Nat := 0
  turn : DrrTurn := .power
  quantumAdded : Bool := false
  deriving DecidableEq, Repr

/-- A SEND in progress (R50, R71); `slot` is none once an interface restart has detached it. `id` is the
model's own mark of the SEND, which no other SEND ever bears (log entry 34). -/
structure WaitSend where
  slot : Option (Fin 16)
  id : Nat
  seq : Word
  left : Nat
  sent : Nat
  lost : Nat
  localCopy : Bool
  deriving DecidableEq, Repr

/-- The relay block's own items (R50). -/
structure Relay where
  seq : Word := 0
  waiting : List WaitSend := []
  deriving DecidableEq, Repr

/-! ## Consist block (R20, R21) -/

/-- Roles, in the order of R20. -/
inductive Role where
  | alone
  | follower
  | lead
  deriving DecidableEq, Repr

/-- Sweep states, in the order of R20. -/
inductive SweepState where
  | idle
  | carrying
  | awaitReturn (attempt : Nat)
  | resweepWait
  deriving DecidableEq, Repr

/-- Sweep failure reasons (11.8). -/
inductive FailReason where
  | tooLong
  | inconsistent
  | linkLost
  | noReturn
  | contestLost
  | deactivated
  deriving DecidableEq, Repr

/-- CONSIST_LOST reasons (11.8). -/
inductive LossReason where
  | deactivated
  | contest
  | beaconTimeout
  | link
  | dissolved
  deriving DecidableEq, Repr

/-- Last sweep outcome (R20, R27). -/
inductive SweepOutcome where
  | absent
  | formed (gen : Byte) (n : Nat)
  | failed (reason : FailReason) (pos : Nat)
  deriving DecidableEq, Repr

/-- A sweep entry (R31, 11.6); the spare byte is always 0. -/
structure SweepEntry where
  id : Ident
  towardEnd : Byte
  doorsLeft : Byte
  doorsRight : Byte
  flags : Byte
  r : Byte
  f : Byte
  s : Byte
  deriving DecidableEq, Repr

/-- A live table (R21); N is the number of entries. -/
structure LiveTable where
  entries : List SweepEntry
  pos : Nat
  gen : Byte
  leadId : Ident
  toward : Port
  deriving DecidableEq, Repr

/-- A carried sweep (R20). -/
structure Carry where
  leadId : Ident
  number : Byte
  port : Port
  pos : Nat
  deriving DecidableEq, Repr

/-- The consist record (R20), with the lead identity sent in the current attempt (log entry 18) and
the slot of the START_SWEEP that waits on the sweep (R27). -/
structure Consist where
  role : Role := .alone
  sweep : SweepState := .idle
  cabEnd : Option Port := none
  table : Option LiveTable := none
  lastGen : Byte := 0
  sweepCounter : Byte := 0
  attemptLead : Ident := 0
  carry : Option Carry := none
  pendingTable : Option (List SweepEntry) := none
  beaconNo : Word := 0
  lastStationary : Bool := false
  outcome : SweepOutcome := .absent
  returnT : Timer := .stopped
  carryT : Timer := .stopped
  periodT : Timer := .stopped
  watchT : Timer := .stopped
  settleT : Timer := .stopped
  sweepSlot : Option (Fin 16) := none
  deriving DecidableEq, Repr

/-! ## Motion counter (R75) -/

/-- Motion states, in code order (11.8). -/
inductive MotionState where
  | unfitted
  | unknown
  | stopped
  | moving
  | faulted
  deriving DecidableEq, Repr

/-- Train directions, in the order of R75. -/
inductive TrainDir where
  | forward
  | reverse
  | still
  | notShown
  deriving DecidableEq, Repr

/-- The motion record (R75), with the ticks passed in the current window of the grid, 0..9. `windowDue` is the
model's own: the window's tenth tick has come and its end has not been taken (log entry 20). -/
structure Motion where
  state : MotionState := .unfitted
  refA : Bool := false
  refB : Bool := false
  count : Int := 0
  saturated : Bool := false
  illegal : Word := 0
  lastDelta : Int := 0
  lastIllegal : Word := 0
  lastSaturated : Bool := false
  odometer : BitVec 32 := 0
  quiet : Nat := 0
  clean : Nat := 0
  dir : TrainDir := .notShown
  windowTicks : Nat := 0
  windowDue : Bool := false
  deriving DecidableEq, Repr

/-! ## Door block (R87, R88) -/

/-- Door states, in code order (11.8). -/
inductive DoorState where
  | closed
  | opened
  | closing
  | late
  | forced
  | isolated
  deriving DecidableEq, Repr

/-- One door record (R87). A record above the profile's door count is unused; of it only the level of
the contact input is kept, which R93 reads when the door becomes configured. `limitDue` is the model's own field
(log entry 20): while a CLOSING door's entry to LATE is due, the limit in force at the tick that found the timer to
have reached it (R91). -/
structure DoorRec where
  state : DoorState := .closed
  /-- MADE is true. -/
  contact : Bool := false
  timer : Word := 0
  lastClose : Word := 0
  limitDue : Option Word := none
  deriving DecidableEq, Repr

/-- Release basis, in the order of R88. -/
inductive Basis where
  | sensor
  | flag
  | attestation
  | absent
  deriving DecidableEq, Repr

/-- One side record with its four door records (R87, R88). -/
structure SideRec where
  release : Bool := false
  closeReq : Bool := false
  basis : Basis := .absent
  doors : Quad DoorRec := Quad.const {}
  deriving DecidableEq, Repr

/-- The door block's records (R87, R88). -/
structure Doors where
  left : SideRec := {}
  right : SideRec := {}
  latch : Bool := false
  deriving DecidableEq, Repr

/-! ## Summary block (R110, R111) -/

/-- A partial total (R110). -/
structure Total where
  beacon : Word := 0
  covered : Nat := 0
  openCount : Nat := 0
  faulted : Nat := 0
  refused : Nat := 0
  list : List Nat := []
  more : Bool := false
  deriving DecidableEq, Repr

/-- Why a result is UNKNOWN, in the order of R111. -/
inductive UnknownReason where
  | noSummary
  | short
  | stale
  deriving DecidableEq, Repr

/-- The judged result (R111). -/
inductive DoorResult where
  | closed
  | opened
  | unknown (why : UnknownReason)
  deriving DecidableEq, Repr

/-- The judgement record (R111); it is active while the role is LEAD. -/
structure Judgement where
  result : DoorResult := .unknown .noSummary
  total : Total := {}
  judged : Bool := false
  tick : Word := 0
  age : Timer := .stopped
  late : Word := 0
  malformed : Word := 0
  deriving DecidableEq, Repr

/-! ## Ratio converter (R123), demand computer (R127), supply monitor (R132) -/

/-- Phases of the converter's cycle (R123). -/
inductive Phase where
  | refA
  | senseA
  | refB
  | senseB
  deriving DecidableEq, Repr

/-- The two measurement channels: A cabin air, B heater duct. -/
inductive Chan where
  | a
  | b
  deriving DecidableEq, Repr

/-- Channel states, in the order of R123. -/
inductive ChanState where
  | noCode
  | valid
  | stale
  | unavailable
  | unused
  deriving DecidableEq, Repr

/-- Measurement faults, in code order (11.8). -/
inductive MeasFault where
  | absent
  | reference
  | overflow
  | sensor
  deriving DecidableEq, Repr

/-- One measurement channel (R123). -/
structure Channel where
  state : ChanState := .noCode
  code : Word := 0
  run : Nat := 0
  fault : MeasFault := .absent
  deriving DecidableEq, Repr

/-- The ratio converter's record (R123). -/
structure Converter where
  phase : Phase := .refA
  timeBase : BitVec 20 := 0
  counter : Word := 0
  tref : BitVec 20 := 0
  refGood : Bool := true
  refFaults : Word := 0
  chA : Channel := {}
  chB : Channel := { state := .unused }
  deriving DecidableEq, Repr

/-- Demand basis, in the order of R127. -/
inductive DemandBasis where
  | code
  | standby
  deriving DecidableEq, Repr

/-- The demand computer's items (R127). -/
structure Demand where
  setpoint : Word := 0
  gain : Byte := 0
  boost : Byte := 0
  d : Byte := 0
  basis : DemandBasis := .standby
  boostOn : Bool := false
  deriving DecidableEq, Repr

/-- Supply monitor modes, in code order (11.3). -/
inductive MonMode where
  | off
  | once
  | continuous
  | onBeacon
  deriving DecidableEq, Repr

/-- Scan state (R132). -/
inductive ScanState where
  | idle
  | scanning (next : Nat) (codes : List (BitVec 12))
  deriving DecidableEq, Repr

/-- One supply channel (R132). -/
structure SupplyChan where
  code : BitVec 12 := 0
  measured : Bool := false
  age : Word := 0
  deriving DecidableEq, Repr

/-- The supply monitor's record (R132). -/
structure Monitor where
  mode : MonMode := .off
  start : Nat := 0
  stop : Nat := 0
  scan : ScanState := .idle
  period : Timer := .stopped
  waitSlot : Option (Fin 16) := none
  scanNo : Word := 0
  chans : Quad SupplyChan := Quad.const {}
  deriving DecidableEq, Repr

/-! ## Allocation block (R139, R143) -/

/-- One entry of the demand table (R143). -/
structure DemandEntry where
  r : Nat
  f : Nat
  s : Nat
  demanded : Bool := false
  d : Nat := 0
  draw : Nat := 0
  flags : Byte := 0
  refreshed : Bool := false
  age : Nat := 0
  deriving DecidableEq, Repr

/-- Cases of the grant computation (R148), in the order of R139. -/
inductive GrantCase where
  | fit
  | scaled
  | shortfall
  deriving DecidableEq, Repr

/-- Outcome of the last allocation period (R139). -/
inductive LastPeriod where
  | absent
  | computed (c : GrantCase)
  | skippedUnset
  deriving DecidableEq, Repr

/-- The TLV code a computation used, or why it used none (R146). -/
inductive TlvUse where
  | absent
  | unusable
  | code (v : BitVec 12)
  deriving DecidableEq, Repr

/-- What became of the GRANT's port copy (R150), in the order of R139. -/
inductive GrantOutcome where
  | sent
  | localOnly
  | linkDown
  | refused
  deriving DecidableEq, Repr

/-- The figures of one entry in the last computation (R145, R148, R151). -/
structure GrantLine where
  included : Bool
  dUsed : Nat
  e : Nat
  g : Nat
  deriving DecidableEq, Repr

/-- The allocation record (R139); it is active while the role is LEAD. -/
structure Alloc where
  budgetSet : Bool := false
  b : Nat := 0
  vlow : Nat := 0
  table : Option (List DemandEntry) := none
  number : Word := 0
  lastPeriod : LastPeriod := .absent
  periodTick : Word := 0
  bEff : Nat := 0
  tlv : TlvUse := .absent
  derateUnavailable : Bool := false
  bs : Nat := 0
  dSum : Nat := 0
  fSum : Nat := 0
  k : Nat := 0
  grants : Option (List GrantLine) := none
  outcome : Option GrantOutcome := none
  malformed : Word := 0
  deriving DecidableEq, Repr

/-! ## Heater output (R153) -/

/-- Grant status, in the order of R153. -/
inductive GrantStatus where
  | absent
  | fresh
  | expired
  deriving DecidableEq, Repr

/-- Overtemperature causes, in code order (11.8). -/
inductive OtCause where
  | absent
  | code
  | unavailable
  deriving DecidableEq, Repr

/-- Basis of the target duty, in the order of R153. -/
inductive DutyBasis where
  | grant
  | standby
  | overtemp
  deriving DecidableEq, Repr

/-- The heater output record (R153), with the position and N the offset was formed from (R161). `cycleDue`
is the model's own: the cycle slot has come to 0 and the cycle that begins there has not (R157, log entry
20). -/
structure Heater where
  status : GrantStatus := .absent
  g : Byte := 0
  number : Word := 0
  flags : Byte := 0
  age : Word := 0
  latch : Bool := false
  latchCause : OtCause := .absent
  slot : BitVec 8 := 0
  cycles : Word := 0
  mode : HeaterMode := .quad
  target : Nat := 0
  basis : DutyBasis := .standby
  onCounts : List Nat := [0, 0, 0, 0]
  offset : Nat := 0
  offsetPos : Nat := 0
  offsetCars : Nat := 0
  cut : Bool := false
  cycleDue : Bool := false
  malformed : Word := 0
  deriving DecidableEq, Repr

/-! ## The blocks together -/

/-- The state of every block but the exchange interface; `tick` is the time base that TICK shows.
`origCount` is the model's own: it counts originations, indexes the free values of Config (log entry 10) and
marks the SENDs (log entry 34). -/
structure Blocks where
  tick : Word := 0
  profile : Profile := {}
  port1 : LinkPort := {}
  port2 : LinkPort := {}
  relay : Relay := {}
  consist : Consist := {}
  motion : Motion := {}
  doors : Doors := {}
  summary : Judgement := {}
  converter : Converter := {}
  demand : Demand := {}
  monitor : Monitor := {}
  alloc : Alloc := {}
  heater : Heater := {}
  origCount : Nat := 0
  deriving DecidableEq, Repr

/-! ## Exchange interface (R163 to R177) -/

/-- Slot states, in code order (11.3). -/
inductive SlotState where
  | free
  | taken
  | done
  | refused
  | abandoned
  deriving DecidableEq, Repr

/-- The operation a TAKEN slot reports (R167); a SEND by its mark (log entry 34). -/
inductive SlotOp where
  | sweep
  | send (id : Nat)
  | once
  deriving DecidableEq, Repr

/-- A slot's reply and operation (R167). No reply uses more than three detail words (11.3). -/
structure Slot where
  state : SlotState := .free
  tagEcho : Byte := 0
  result : Word := 0
  d1 : Word := 0
  d2 : Word := 0
  d3 : Word := 0
  op : Option SlotOp := none
  deriving DecidableEq, Repr

/-- A page's header, body and withheld content (R172). -/
structure Page where
  u : Word := 0
  o : Bool := false
  body : List Word := []
  latest : Option (List Word) := none
  deferred : Word := 0
  deriving DecidableEq, Repr

/-- One entry of a delivery queue (R184). -/
inductive Entry where
  | blank
  | telegram (port : Nat) (tick : Word) (t : Telegram)
  | notice (code : Byte) (tick d1 d2 : Word)
  deriving DecidableEq, Repr

/-- A delivery queue (R175, R176). -/
structure DQueue where
  fill : BitVec 4 := 0
  validDrain : BitVec 4 := 0
  lost : Word := 0
  entries : Vector Entry 8 := Vector.replicate 8 .blank
  deriving DecidableEq, Repr

/-- The registers, slots, pages and queues of the exchange interface. -/
structure Iface where
  scan : Bool := false
  deliver : Bool := false
  cause : BitVec 5 := 0
  enable : BitVec 5 := 0
  slots : Vector Slot 16 := Vector.replicate 16 {}
  scanNext : Fin 16 := 0
  pages : Vector Page 6 := Vector.replicate 6 {}
  queues : Quad DQueue := Quad.const {}
  deriving DecidableEq, Repr

/-- The host-written words of exchange memory as (word address, word) pairs, addresses strictly rising,
no word 0; an unlisted word reads 0, its power-on value (R181, log entry 1). -/
abbrev Memory := List (Nat × Word)

/-- The state of the CL32 and the queue of waiting commands, first in, first out. -/
structure State where
  blk : Blocks
  ifc : Iface
  host : Memory
  pending : List Instr
  deriving DecidableEq, Repr

/-! ## Reset -/

/-- Body of the DOOR page at the release of reset: no configured door (R108, codes of 11.8 and log
entry 13). -/
def resetDoorBody : List Word :=
  [0, 0, 0, 3] ++ [0, 0, 0, 3] ++ [0, 0] ++
  [7, 0, 0, 0] ++ [7, 0, 0, 0] ++ [7, 0, 0, 0] ++ [7, 0, 0, 0] ++
  [7, 0, 0, 0] ++ [7, 0, 0, 0] ++ [7, 0, 0, 0] ++ [7, 0, 0, 0] ++
  [0, 100] ++ [0, 0, 0, 0] ++
  [0, 2, 0, 0] ++ [0, 0, 0, 0, 0] ++ [0, 0, 0, 0, 0] ++ [0] ++ [0, 0, 0, 0]

/-- Body of the HEAT page at the release of reset: the first cycle has begun (R153, R157, R161). -/
def resetHeatBody : List Word :=
  [0, 0, 0, 0] ++ [0, 0, 0, 0] ++ [4, 0, 0, 0] ++ [0, 0, 0, 0, 1, 0] ++ [0, 0] ++
  [0, 0, 0, 0, 0] ++ [0, 0, 0] ++ [0, 0, 1] ++ [0, 0, 0, 0] ++ [0, 0, 0] ++ [1, 0, 0] ++
  List.replicate 21 0 ++ [0, 0, 0, 0]

/-- The pages at the release of reset: DOOR (number 3) and HEAT (number 4) published once. -/
def resetPages : Vector Page 6 :=
  #v[{}, {}, {},
     { u := 1, body := resetDoorBody, latest := some resetDoorBody },
     { u := 1, body := resetHeatBody, latest := some resetHeatBody }, {}]

/-- The machine right after power-on reset: every item at the reset value of its chapter, and the steps
the spec gives the release of reset taken (first marks R4, DOOR page R108, first heater cycle R157;
log entry 2). Laws/Reset.lean proves that this literal is what POWER_ON_RESET leaves. -/
def State.reset : State where
  blk := { port1 := { tx := .mark 0 }, port2 := { tx := .mark 0 }, heater := { cycles := 1 } }
  ifc := { pages := resetPages }
  host := []
  pending := []

end Sys2Proof.Machine
end

