-- ==== Sys2Proof/Machine/Memory.lean ====
section
/-! DEFINITION. The host-written words of exchange memory: one canonical list, its read and its write (R166). -/

namespace Sys2Proof.Machine

/-- What a host-written word that nothing has written reads as: 0, as power-on reset leaves it (R181). -/
def unlistedWord : Word := 0

/-- The word at an address. -/
def Memory.read : Memory → Nat → Word
  | [], _ => unlistedWord
  | (b, v) :: m, a => if b = a then v else Memory.read m a

/-- Store a word and keep the canonical form. -/
def Memory.write : Memory → Nat → Word → Memory
  | [], a, w => if w = unlistedWord then [] else [(a, w)]
  | (b, v) :: m, a, w =>
    if a < b then
      if w = unlistedWord then (b, v) :: m else (a, w) :: (b, v) :: m
    else if a = b then
      if w = unlistedWord then m else (a, w) :: m
    else (b, v) :: Memory.write m a w

/-- Store words one after another. -/
def Memory.writeWords (m : Memory) (a : Nat) : List Word → Memory
  | [] => m
  | w :: ws => Memory.writeWords (m.write a w) (a + 1) ws

/-- Every listed address is above `a`. -/
def Memory.above (a : Nat) (m : Memory) : Bool := m.all fun c => decide (a < c.1)

/-- The canonical form: addresses strictly rising, no word equal to what an unlisted word reads as. -/
def Memory.wf : Memory → Bool
  | [] => true
  | (a, v) :: m => decide (v ≠ unlistedWord) && Memory.above a m && Memory.wf m

/-- The host-written words of R166: profile and control area, and words 0..3 and 16..255 of each slot. -/
def hostWritten (a : Nat) : Bool :=
  decide (a < 0x100) ||
  (decide (0x200 ≤ a) && decide (a < 0x1200) &&
    (decide ((a - 0x200) % 256 < 4) || decide (16 ≤ (a - 0x200) % 256)))

/-- Address of word `i` of slot `n` (11.2). -/
def slotAddr (n : Fin 16) (i : Nat) : Nat := 0x200 + 256 * n.val + i

/-- Address of the T word of page number `p` (11.2). -/
def takenAddr (p : Nat) : Nat := 0x80 + 2 * p

/-- Address of the HOLD word of page number `p` (11.2, R183). -/
def holdAddr (p : Nat) : Nat := 0x81 + 2 * p

/-- Address of the drain word of queue `q` (11.2). -/
def drainAddr (q : Fin 4) : Nat := 0x90 + q.val

/-- Address of the page interrupt mask (11.2). -/
def pageMaskAddr : Nat := 0x98

/-- Address of the delivery map word of a telegram kind code (11.2). -/
def kindMapAddr (k : Byte) : Nat := 0xA0 + k.toNat

/-- Address of the delivery map word of a notice code (11.2). -/
def noticeMapAddr (c : Byte) : Nat := 0xC0 + c.toNat

end Sys2Proof.Machine
end

