-- ==== Sys2Proof/WellFormed.lean ====
section
/-! DEFINITION. Which commands are well formed: the operand is one its row names. -/

namespace Sys2Proof

/-- Bit 15 of a CONTROL write, IFRESET (11.2). -/
def controlIfreset (w : Word) : Bool := w.getLsbD 15

/-- A telegram a port can hand over for the row of kind code `k`: the kind is the row's, and the
receiver has taken a payload length above 464 for a framing error (R2). -/
def telegramWellFormed (k : Byte) (t : Telegram) : Bool :=
  t.hdr.kind == k && decide (t.payload.length ≤ Config.maxPayload)

/-- The operand is one the row names. A command that fails this check is mislabelled, not impossible:
the machine still does what the write or the frame it spells does (log entry 24). -/
def Instr.wellFormed : Instr → Bool
  | .powerOnReset => true
  | .resetPin => true
  | .ifreset w => controlIfreset w
  | .scan w => !controlIfreset w
  | .deliver w => !controlIfreset w
  | .causeClear _ => true
  | .causeEnableWrite _ => true
  | .registerWriteIgnored n _ => n == 0 || decide (4 ≤ n.toNat)
  | .memoryWrite _ _ => true
  | .drainWrite _ _ => true
  | .holdSet _ w => w.getLsbD 0
  | .holdRelease _ w => !w.getLsbD 0
  | .scanPass => true
  | .adoptProfile _ _ => true
  | .setCab _ _ _ => true
  | .startSweep _ _ => true
  | .send _ _ _ _ _ _ _ _ payload => decide (7 + payload.length ≤ Config.maxBody)
  | .door _ _ _ _ _ _ _ _ _ => true
  | .heatSet _ _ _ _ _ => true
  | .budget _ _ _ _ => true
  | .monitor _ _ _ _ _ => true
  | .restoreLink _ _ _ => true
  | .abandon _ _ => true
  | .markDue _ => true
  | .frameEnd _ => true
  | .markReceived _ _ _ => true
  | .framingError _ => true
  | .frameCheckFailure _ => true
  | .silenceTimerExpiry _ => true
  | .qualityWindowEnd => true
  | .sweepTelegram _ t => telegramWellFormed 1 t
  | .returnTelegram _ t => telegramWellFormed 2 t
  | .sweepFailTelegram _ t => telegramWellFormed 3 t
  | .confirmTelegram _ t => telegramWellFormed 4 t
  | .dissolveTelegram _ t => telegramWellFormed 5 t
  | .beaconTelegram _ t => telegramWellFormed 6 t
  | .breakTelegram _ t => telegramWellFormed 7 t
  | .joinTelegram _ t => telegramWellFormed 8 t
  | .doorTelegram _ t => telegramWellFormed 9 t
  | .summaryTelegram _ t => telegramWellFormed 10 t
  | .demandTelegram _ t => telegramWellFormed 11 t
  | .grantTelegram _ t => telegramWellFormed 12 t
  | .dataTelegram _ t => telegramWellFormed 13 t
  | .returnTimerExpiry => true
  | .carryTimerExpiry => true
  | .beaconPeriodExpiry => true
  | .beaconWatchExpiry => true
  | .settleTimerExpiry => true
  | .ageTimerExpiry => true
  | .encoderTransition _ => true
  | .illegalTransition => true
  | .motionWindowEnd => true
  | .contactMakes _ _ => true
  | .contactOpens _ _ => true
  | .tick => true
  | .closeLimitReached _ _ => true
  | .grantExpiry => true
  | .cycleStart => true
  | .referencePhaseComplete tb => tb != 0
  | .referenceAbort => true
  | .sensorPhaseEnd _ => true
  | .measureOverflow => true
  | .periodTimerExpiry => true
  | .scanComplete _ _ _ _ => true

end Sys2Proof
end

