-- ==== Sys2Proof/Machine/Operands.lean ====
section
/-! DEFINITION. Codes and layouts (chapter 11): bytes and words, telegram headers and payloads, sweep entries, request words and slot bodies, the profile area. -/

namespace Sys2Proof.Machine

/-! ## Numbers, bytes, words (R183) -/

/-- A saturating 16-bit count, one up. -/
def satInc (w : Word) : Word := if w = BitVec.allOnes 16 then w else w + 1

/-- A number as a byte. -/
def byte (n : Nat) : Byte := BitVec.ofNat 8 n

/-- A number as a word. -/
def word (n : Nat) : Word := BitVec.ofNat 16 n

/-- Two items in one word, the first named in the high byte (11.3, R184). -/
def hiLo (hi lo : Nat) : Word := BitVec.ofNat 16 (hi % 256 * 256 + lo % 256)

/-- A flag as a number. -/
def flagNat (b : Bool) : Nat := if b then 1 else 0

/-- A flag as a word. -/
def flagWord (b : Bool) : Word := if b then 1 else 0

/-- The low byte of a word. -/
def loByte (w : Word) : Byte := w.setWidth 8

/-- The high byte of a word. -/
def hiByte (w : Word) : Byte := (w >>> 8).setWidth 8

/-- A word of two bytes, the earlier byte low (R183). -/
def packWord (lo hi : Byte) : Word := hi ++ lo

/-- A two-byte field, low byte first. -/
def wordBytes (w : Word) : List Byte := [loByte w, hiByte w]

/-- The low half of a 32-bit number. -/
def loHalf (i : BitVec 32) : Word := i.setWidth 16

/-- The high half of a 32-bit number. -/
def hiHalf (i : BitVec 32) : Word := (i >>> 16).setWidth 16

/-- A 32-bit number in two words, low half first (R183). -/
def wideWords (i : BitVec 32) : List Word := [loHalf i, hiHalf i]

/-- A 32-bit number from its halves. -/
def joinWide (lo hi : Word) : BitVec 32 := hi ++ lo

/-- A four-byte field, low byte first. -/
def identBytes (i : Ident) : List Byte := wordBytes (loHalf i) ++ wordBytes (hiHalf i)

/-- An identity from four bytes, low byte first. -/
def joinIdent (b0 b1 b2 b3 : Byte) : Ident := joinWide (packWord b0 b1) (packWord b2 b3)

/-- A byte sequence packed two bytes to a word (R183); a last single byte leaves the high byte 0. -/
def packBytes : List Byte → List Word
  | [] => []
  | [b] => [packWord b 0]
  | b :: c :: bs => packWord b c :: packBytes bs

/-- The bytes of words, earlier byte first (R183). -/
def unpackWords : List Word → List Byte
  | [] => []
  | w :: ws => loByte w :: hiByte w :: unpackWords ws

/-- Pad a list of words with 0 up to `n`. -/
def padWords (n : Nat) (ws : List Word) : List Word := ws ++ List.replicate (n - ws.length) 0

/-! ## Four of a kind -/

/-- The item with index `i`. -/
def Quad.get {α : Type} (q : Quad α) (i : Fin 4) : α :=
  match i with
  | 0 => q.x0
  | 1 => q.x1
  | 2 => q.x2
  | 3 => q.x3

/-- Replace the item with index `i`. -/
def Quad.set {α : Type} (q : Quad α) (i : Fin 4) (a : α) : Quad α :=
  match i with
  | 0 => { q with x0 := a }
  | 1 => { q with x1 := a }
  | 2 => { q with x2 := a }
  | 3 => { q with x3 := a }

/-- The four items in order. -/
def Quad.toList {α : Type} (q : Quad α) : List α := [q.x0, q.x1, q.x2, q.x3]

/-- Apply a function to the first `n` items. -/
def Quad.mapFirst {α : Type} (n : Nat) (g : α → α) (q : Quad α) : Quad α :=
  { x0 := if 0 < n then g q.x0 else q.x0
    x1 := if 1 < n then g q.x1 else q.x1
    x2 := if 2 < n then g q.x2 else q.x2
    x3 := if 3 < n then g q.x3 else q.x3 }

/-! ## Codes (11.3, 11.6, 11.8, and the order of the owning rule, log entry 13) -/

/-- The other port of the car. -/
def portOther : Port → Port
  | .p1 => .p2
  | .p2 => .p1

/-- Port number, which is also the car end it serves. -/
def portNum : Port → Nat
  | .p1 => 1
  | .p2 => 2

/-- A port from a byte, if it is 1 or 2. -/
def portOf (b : Byte) : Option Port :=
  if b = 1 then some .p1 else if b = 2 then some .p2 else none

/-- A port number, 0 for none. -/
def portOptNum : Option Port → Nat
  | none => 0
  | some p => portNum p

/-- Side code: LEFT 1, RIGHT 2. -/
def sideNum : Side → Nat
  | .left => 1
  | .right => 2

/-- The other side. -/
def otherSide : Side → Side
  | .left => .right
  | .right => .left

/-- Page number (11.2). -/
def pageIdx : PageId → Fin 6
  | .link => 0
  | .consist => 1
  | .motion => 2
  | .door => 3
  | .heat => 4
  | .monitor => 5

/-- All pages in number order. -/
def allPages : List PageId := [.link, .consist, .motion, .door, .heat, .monitor]

/-- Class code, which is also the index of its queue and drop count. -/
def clsIdx : Cls → Fin 4
  | .safety => 0
  | .control => 1
  | .power => 2
  | .service => 3

/-- A class from its code. -/
def clsOf (n : Nat) : Option Cls :=
  match n with
  | 0 => some .safety
  | 1 => some .control
  | 2 => some .power
  | 3 => some .service
  | _ => none

/-- Mode code. -/
def modeNum : Mode → Nat
  | .neighbour => 0
  | .position => 1
  | .range => 2
  | .all => 3
  | .lead => 4

/-- A mode from its code. -/
def modeOf (n : Nat) : Option Mode :=
  match n with
  | 0 => some .neighbour
  | 1 => some .position
  | 2 => some .range
  | 3 => some .all
  | 4 => some .lead
  | _ => none

/-- Kind code. -/
def kindNum : Kind → Nat
  | .sweep => 1
  | .ret => 2
  | .sweepFail => 3
  | .confirm => 4
  | .dissolve => 5
  | .beacon => 6
  | .brk => 7
  | .join => 8
  | .door => 9
  | .summary => 10
  | .demand => 11
  | .grant => 12
  | .data => 13

/-- A kind from its code. -/
def kindOf (n : Nat) : Option Kind :=
  match n with
  | 1 => some .sweep
  | 2 => some .ret
  | 3 => some .sweepFail
  | 4 => some .confirm
  | 5 => some .dissolve
  | 6 => some .beacon
  | 7 => some .brk
  | 8 => some .join
  | 9 => some .door
  | 10 => some .summary
  | 11 => some .demand
  | 12 => some .grant
  | 13 => some .data
  | _ => none

/-- The sweep family (R29). -/
def sweepFamily : Kind → Bool
  | .sweep | .ret | .sweepFail | .confirm | .dissolve => true
  | .beacon | .brk | .join | .door | .summary | .demand | .grant | .data => false

def linkStateNum : LinkState → Nat
  | .dead => 0
  | .settling => 1
  | .up => 2
  | .faulted => 3

def linkCauseNum : LinkCause → Nat
  | .firstMark => 1
  | .settled => 2
  | .silence => 3
  | .newNeighbour => 4
  | .quality => 5
  | .clean => 6
  | .restore => 7

def failReasonNum : FailReason → Nat
  | .tooLong => 1
  | .inconsistent => 2
  | .linkLost => 3
  | .noReturn => 4
  | .contestLost => 5
  | .deactivated => 6

def lossReasonNum : LossReason → Nat
  | .deactivated => 1
  | .contest => 2
  | .beaconTimeout => 3
  | .link => 4
  | .dissolved => 5

def roleNum : Role → Nat
  | .alone => 0
  | .follower => 1
  | .lead => 2

def sweepStateNum : SweepState → Nat
  | .idle => 0
  | .carrying => 1
  | .awaitReturn _ => 2
  | .resweepWait => 3

/-- The attempt of a sweep state, 0 outside AWAIT_RETURN. -/
def attemptNum : SweepState → Nat
  | .awaitReturn k => k
  | .idle | .carrying | .resweepWait => 0

def motionStateNum : MotionState → Nat
  | .unfitted => 0
  | .unknown => 1
  | .stopped => 2
  | .moving => 3
  | .faulted => 4

def trainDirNum : TrainDir → Nat
  | .forward => 0
  | .reverse => 1
  | .still => 2
  | .notShown => 3

def doorStateNum : DoorState → Nat
  | .closed => 0
  | .opened => 1
  | .closing => 2
  | .late => 3
  | .forced => 4
  | .isolated => 5

def basisNum : Basis → Nat
  | .sensor => 0
  | .flag => 1
  | .attestation => 2
  | .absent => 3

def resultNum : DoorResult → Nat
  | .closed => 0
  | .opened => 1
  | .unknown _ => 2

/-- Unknown reason, 0 while the result is not UNKNOWN (11.5). -/
def unknownReasonNum : DoorResult → Nat
  | .closed | .opened => 0
  | .unknown .noSummary => 0
  | .unknown .short => 1
  | .unknown .stale => 2

def chanNum : Chan → Nat
  | .a => 1
  | .b => 2

def chanStateNum : ChanState → Nat
  | .noCode => 0
  | .valid => 1
  | .stale => 2
  | .unavailable => 3
  | .unused => 4

def measFaultNum : MeasFault → Nat
  | .absent => 0
  | .reference => 1
  | .overflow => 2
  | .sensor => 3

def demandBasisNum : DemandBasis → Nat
  | .code => 0
  | .standby => 1

def monModeNum : MonMode → Nat
  | .off => 0
  | .once => 1
  | .continuous => 2
  | .onBeacon => 3

def monModeOf (n : Nat) : Option MonMode :=
  match n with
  | 0 => some .off
  | 1 => some .once
  | 2 => some .continuous
  | 3 => some .onBeacon
  | _ => none

def heaterModeNum : HeaterMode → Nat
  | .quad => 0
  | .dual => 1

def grantStatusNum : GrantStatus → Nat
  | .absent => 0
  | .fresh => 1
  | .expired => 2

def otCauseNum : OtCause → Nat
  | .absent => 0
  | .code => 1
  | .unavailable => 2

def dutyBasisNum : DutyBasis → Nat
  | .grant => 0
  | .standby => 1
  | .overtemp => 2

def grantCaseNum : GrantCase → Nat
  | .fit => 0
  | .scaled => 1
  | .shortfall => 2

/-- Last period: COMPUTED 0, SKIPPED_UNSET 1 in the order of R139, and 0 for none (11.5). -/
def lastPeriodNum : LastPeriod → Nat
  | .absent => 0
  | .computed _ => 0
  | .skippedUnset => 1

/-- Case of the last period, 0 when it computed nothing. -/
def lastCaseNum : LastPeriod → Nat
  | .absent | .skippedUnset => 0
  | .computed c => grantCaseNum c

/-- Grant outcome: the order of R139 from 0, and 0 for none (11.5). -/
def grantOutcomeNum : Option GrantOutcome → Nat
  | none => 0
  | some .sent => 0
  | some .localOnly => 1
  | some .linkDown => 2
  | some .refused => 3

/-- TLV code used: 0xFFFF for none, 0xFFFE for not usable (11.5). -/
def tlvWord : TlvUse → Word
  | .absent => 0xFFFF
  | .unusable => 0xFFFE
  | .code v => v.setWidth 16

/-- Notice codes (R184). -/
inductive Notice where
  | linkChange
  | consistInstalled
  | consistLost
  | leadContestLost
  | sweepFailed
  | cabEndCoupled
  | telegramDropped
  | telegramLost
  | doorRefused
  | doorForced
  | doorLate
  | motionWithdraw
  | encoderFault
  | heaterOvertemp
  | tempUnavailable
  | referenceFault
  | grantTimeout
  deriving DecidableEq, Repr

def noticeNum : Notice → Nat
  | .linkChange => 1
  | .consistInstalled => 2
  | .consistLost => 3
  | .leadContestLost => 4
  | .sweepFailed => 5
  | .cabEndCoupled => 6
  | .telegramDropped => 7
  | .telegramLost => 8
  | .doorRefused => 9
  | .doorForced => 10
  | .doorLate => 11
  | .motionWithdraw => 12
  | .encoderFault => 13
  | .heaterOvertemp => 14
  | .tempUnavailable => 15
  | .referenceFault => 16
  | .grantTimeout => 17

/-- Result codes (11.3). -/
inductive ResultCode where
  | badKind
  | badField
  | badClass
  | badLength
  | badDestination
  | noConsist
  | noBuffer
  | notLead
  | sweepInProgress
  | cabNotFitted
  | cabEndCoupled
  | cabActive
  | unprofiled
  | notFaulted
  | notAuthorized
  | doorsNotClosed
  | moving
  | motionUnknown
  | notStationary
  deriving DecidableEq, Repr

def resultCodeNum : ResultCode → Nat
  | .badKind => 1
  | .badField => 2
  | .badClass => 3
  | .badLength => 4
  | .badDestination => 5
  | .noConsist => 6
  | .noBuffer => 7
  | .notLead => 8
  | .sweepInProgress => 9
  | .cabNotFitted => 10
  | .cabEndCoupled => 11
  | .cabActive => 12
  | .unprofiled => 13
  | .notFaulted => 14
  | .notAuthorized => 15
  | .doorsNotClosed => 16
  | .moving => 17
  | .motionUnknown => 18
  | .notStationary => 19

/-! ## Telegram header and payloads (11.6) -/

/-- Class and mode in header byte 1. -/
def classModeByte (c : Cls) (m : Mode) : Byte := byte (modeNum m * 16 + (clsIdx c).val)

/-- The class of a header. -/
def headerCls (h : Header) : Option Cls := clsOf (h.classMode.toNat % 16)

/-- The mode of a header. -/
def headerMode (h : Header) : Option Mode := modeOf (h.classMode.toNat / 16)

/-- The 16 header bytes in line order. -/
def headerBytes (h : Header) : List Byte :=
  [h.kind, h.classMode, h.hops, h.gen, h.srcPos, h.dstLo, h.dstHi, h.flags] ++
    wordBytes h.seq ++ wordBytes h.plen ++ identBytes h.srcId

/-- A header from its 16 bytes. -/
def parseHeader : List Byte → Option Header
  | [k, cm, hops, gen, src, lo, hi, fl, s0, s1, l0, l1, i0, i1, i2, i3] =>
    some { kind := k, classMode := cm, hops := hops, gen := gen, srcPos := src, dstLo := lo,
           dstHi := hi, flags := fl, seq := packWord s0 s1, plen := packWord l0 l1,
           srcId := joinIdent i0 i1 i2 i3 }
  | _ => none

/-- Total length of a telegram in bytes, header included (R51). -/
def telLen (t : Telegram) : Nat := 16 + t.payload.length

/-- The bytes of a telegram in line order. -/
def telegramBytes (t : Telegram) : List Byte := headerBytes t.hdr ++ t.payload

/-- The 12 bytes of a sweep entry. -/
def entryBytes (x : SweepEntry) : List Byte :=
  identBytes x.id ++
    [x.towardEnd, x.doorsLeft, x.doorsRight, x.flags, x.r, x.f, x.s, 0]

/-- The checks R52 makes on every sweep entry of a SWEEP or RETURN. -/
def entrySane (x : SweepEntry) (spare : Byte) : Bool :=
  (x.towardEnd == 1 || x.towardEnd == 2) && decide (x.doorsLeft.toNat ≤ 4) &&
    decide (x.doorsRight.toNat ≤ 4) && decide (x.flags.toNat < 16) && decide (x.r.toNat ≤ 200) &&
    spare == 0

/-- A list of `m` sane sweep entries that takes up the whole byte sequence. -/
def parseEntries : Nat → List Byte → Option (List SweepEntry)
  | 0, [] => some []
  | m + 1, i0 :: i1 :: i2 :: i3 :: te :: dl :: dr :: fl :: r :: f :: s :: sp :: rest =>
    let x : SweepEntry :=
      { id := joinIdent i0 i1 i2 i3, towardEnd := te, doorsLeft := dl, doorsRight := dr,
        flags := fl, r := r, f := f, s := s }
    if entrySane x sp then
      match parseEntries m rest with
      | some xs => some (x :: xs)
      | none => none
    else none
  | _, _ => none

/-- Content of a SWEEP or RETURN. -/
structure SweepBody where
  leadId : Ident
  number : Byte
  entries : List SweepEntry
  deriving DecidableEq, Repr

/-- Payload of a SWEEP or RETURN. -/
def sweepPayload (b : SweepBody) : List Byte :=
  identBytes b.leadId ++ [b.number, byte b.entries.length] ++ b.entries.flatMap entryBytes

/-- SWEEP or RETURN content from the payload, if the entry count and every entry pass R52. -/
def parseSweep : List Byte → Option SweepBody
  | i0 :: i1 :: i2 :: i3 :: n :: m :: rest =>
    match parseEntries m.toNat rest with
    | some xs => some { leadId := joinIdent i0 i1 i2 i3, number := n, entries := xs }
    | none => none
  | _ => none

/-- Content of a SWEEP_FAIL: reason and position as bytes, since a car passes them on unchanged (R37). -/
structure FailBody where
  leadId : Ident
  number : Byte
  reason : Byte
  pos : Byte
  deriving DecidableEq, Repr

def failPayload (b : FailBody) : List Byte := identBytes b.leadId ++ [b.number, b.reason, b.pos]

def parseFail : List Byte → Option FailBody
  | [i0, i1, i2, i3, n, r, p] =>
    some { leadId := joinIdent i0 i1 i2 i3, number := n, reason := r, pos := p }
  | _ => none

/-- Content of a CONFIRM. -/
structure ConfirmBody where
  leadId : Ident
  number : Byte
  gen : Byte
  n : Byte
  deriving DecidableEq, Repr

def confirmPayload (b : ConfirmBody) : List Byte := identBytes b.leadId ++ [b.number, b.gen, b.n]

def parseConfirm : List Byte → Option ConfirmBody
  | [i0, i1, i2, i3, n, g, k] =>
    some { leadId := joinIdent i0 i1 i2 i3, number := n, gen := g, n := k }
  | _ => none

/-- Content of a BEACON. -/
structure BeaconBody where
  number : Word
  leadId : Ident
  stationary : Bool
  deriving DecidableEq, Repr

def beaconPayload (b : BeaconBody) : List Byte :=
  wordBytes b.number ++ identBytes b.leadId ++ [byte (flagNat b.stationary)]

/-- The stationary flag is bit 0 of its byte (log entry 14). -/
def parseBeacon : List Byte → Option BeaconBody
  | [n0, n1, i0, i1, i2, i3, fl] =>
    some { number := packWord n0 n1, leadId := joinIdent i0 i1 i2 i3, stationary := fl.getLsbD 0 }
  | _ => none

/-- Content of a DOOR telegram with its codes as sent. -/
structure DoorBody where
  action : Byte
  side : Byte
  stationary : Bool
  deriving DecidableEq, Repr

def doorPayload (b : DoorBody) : List Byte := [b.action, b.side, byte (flagNat b.stationary)]

def parseDoor : List Byte → Option DoorBody
  | [a, s, fl] => some { action := a, side := s, stationary := fl.getLsbD 0 }
  | _ => none

/-- Payload of a SUMMARY (11.6): unused list bytes are 0. -/
def summaryPayload (t : Total) : List Byte :=
  wordBytes t.beacon ++ [byte t.covered] ++ wordBytes (word t.openCount) ++
    wordBytes (word t.faulted) ++ [byte t.refused, byte t.list.length] ++
    (t.list.map byte ++ List.replicate (4 - t.list.length) 0) ++ [byte (flagNat t.more)]

/-- A SUMMARY payload as a total, with its list count as sent. -/
def parseSummary : List Byte → Option (Total × Nat)
  | [n0, n1, c, o0, o1, f0, f1, r, k, l0, l1, l2, l3, m] =>
    some ({ beacon := packWord n0 n1, covered := c.toNat, openCount := (packWord o0 o1).toNat,
            faulted := (packWord f0 f1).toNat, refused := r.toNat,
            list := ([l0, l1, l2, l3].take k.toNat).map BitVec.toNat,
            more := m.getLsbD 0 }, k.toNat)
  | _ => none

/-- Content of a DEMAND. -/
structure DemandBody where
  d : Byte
  draw : Word
  flags : Byte
  deriving DecidableEq, Repr

def demandPayload (b : DemandBody) : List Byte := [b.d] ++ wordBytes b.draw ++ [b.flags]

def parseDemand : List Byte → Option DemandBody
  | [d, w0, w1, fl] => some { d := d, draw := packWord w0 w1, flags := fl }
  | _ => none

/-- Content of a GRANT. -/
structure GrantBody where
  number : Word
  bEff : Word
  n : Byte
  flags : Byte
  grants : List Byte
  deriving DecidableEq, Repr

def grantPayload (b : GrantBody) : List Byte :=
  wordBytes b.number ++ wordBytes b.bEff ++ [b.n, b.flags] ++ b.grants

def parseGrant : List Byte → Option GrantBody
  | a0 :: a1 :: b0 :: b1 :: n :: fl :: gs =>
    some { number := packWord a0 a1, bEff := packWord b0 b1, n := n, flags := fl, grants := gs }
  | _ => none

/-- The legal payload lengths of a kind (11.6). -/
def legalLength (k : Kind) (p : Nat) : Bool :=
  match k with
  | .sweep => decide (18 ≤ p) && decide (p ≤ 390) && decide ((p - 6) % 12 = 0)
  | .ret => decide (30 ≤ p) && decide (p ≤ 390) && decide ((p - 6) % 12 = 0)
  | .sweepFail => p == 7
  | .confirm => p == 7
  | .dissolve => p == 1
  | .beacon => p == 7
  | .brk => p == 1
  | .join => p == 2
  | .door => p == 3
  | .summary => p == 14
  | .demand => p == 4
  | .grant => decide (7 ≤ p) && decide (p ≤ 38)
  | .data => decide (p ≤ Config.maxPayload)

/-- The class and mode legal for a kind (R52). -/
def legalClassMode (k : Kind) (c : Cls) (m : Mode) : Bool :=
  match k with
  | .sweep | .ret | .sweepFail | .confirm | .dissolve => c == .control && m == .neighbour
  | .beacon => c == .control && m == .all
  | .brk | .join => c == .control && m == .lead
  | .door => c == .safety && (m == .range || m == .all)
  | .summary => c == .safety && m == .lead
  | .demand => c == .power && m == .lead
  | .grant => c == .power && m == .all
  | .data => c == .control || c == .service

/-- Whether the destination fields fit the mode (R52). -/
def legalDest (m : Mode) (lo hi : Nat) : Bool :=
  match m with
  | .neighbour => lo == 1 || lo == 2
  | .position => lo == hi && decide (1 ≤ lo) && decide (lo ≤ 32)
  | .range => decide (1 ≤ lo) && decide (lo ≤ hi) && decide (hi ≤ 32)
  | .all | .lead => true

/-- What header sanity yields: the codes of a telegram that passed it. -/
structure Sane where
  kind : Kind
  cls : Cls
  mode : Mode
  deriving DecidableEq, Repr

/-- Header sanity (R52), in the order of its list. -/
def headerSanity (t : Telegram) : Option Sane :=
  match kindOf t.hdr.kind.toNat, headerCls t.hdr, headerMode t.hdr with
  | some k, some c, some m =>
    if t.hdr.plen.toNat = t.payload.length ∧ legalLength k t.payload.length ∧
        ((k = .sweep ∨ k = .ret) → (parseSweep t.payload).isSome) ∧
        legalClassMode k c m ∧
        t.hdr.hops.toNat ≤ 31 ∧ (m = .neighbour → t.hdr.hops = 0) ∧
        t.hdr.srcPos.toNat ≤ 32 ∧ (m ≠ .neighbour → t.hdr.srcPos ≠ 0) ∧
        legalDest m t.hdr.dstLo.toNat t.hdr.dstHi.toNat then
      some { kind := k, cls := c, mode := m }
    else none
  | _, _, _ => none

/-! ## Requests and slot bodies (11.3) -/

/-- Requests of a slot; code 3 is treated as IDLE (R183). -/
inductive ReqKind where
  | idle
  | posted
  | abandon
  deriving DecidableEq, Repr

/-- A request word taken apart. -/
structure Request where
  req : ReqKind
  kind : Nat
  tag : Byte
  deriving DecidableEq, Repr

/-- The request word: tag in bits 7..0, kind in 11..8, request in 13..12. -/
def parseRequest (w : Word) : Request :=
  { req := if w.toNat / 4096 % 4 = 1 then .posted else if w.toNat / 4096 % 4 = 2 then .abandon else .idle
    kind := w.toNat / 256 % 16
    tag := loByte w }

/-- The word of a request; unassigned bits are 0. -/
def requestWord (req : ReqKind) (kind : Nat) (tag : Byte) : Word :=
  word ((match req with | .idle => 0 | .posted => 1 | .abandon => 2) * 4096 + kind % 16 * 256 + tag.toNat)

/-- A command of a slot with its parameters, fields unchecked (11.3). -/
inductive SlotCmd where
  | adoptProfile
  | setCab (cabEnd : Byte)
  | startSweep
  | send (cls mode lo hi flags : Byte) (plen : Nat) (rest : List Byte)
  | door (action scope side lo hi number attest : Byte)
  | heatSet (setpoint : Word) (gain boost : Byte)
  | budget (b vlow : Word)
  | monitor (start stop mode : Byte)
  | restoreLink (port : Byte)
  deriving DecidableEq, Repr

/-- The check of R169: kind, then body length above 480, then a body shorter than the kind's fixed part.
Bytes beyond what a kind needs are not read. -/
def parseCmd (kind len : Nat) (body : List Byte) : Except ResultCode SlotCmd :=
  if kind = 0 ∨ 10 ≤ kind then .error .badKind
  else if Config.maxBody < len then .error .badField
  else
    match kind, body.take len with
    | 1, _ => .ok .adoptProfile
    | 2, e :: _ => .ok (.setCab e)
    | 3, _ => .ok .startSweep
    | 4, c :: m :: lo :: hi :: fl :: p0 :: p1 :: rest =>
      .ok (.send c m lo hi fl (packWord p0 p1).toNat rest)
    | 5, a :: sc :: sd :: lo :: hi :: n :: att :: _ => .ok (.door a sc sd lo hi n att)
    | 6, s0 :: s1 :: g :: b :: _ => .ok (.heatSet (packWord s0 s1) g b)
    | 7, b0 :: b1 :: v0 :: v1 :: _ => .ok (.budget (packWord b0 b1) (packWord v0 v1))
    | 8, a :: b :: m :: _ => .ok (.monitor a b m)
    | 9, p :: _ => .ok (.restoreLink p)
    | _, _ => .error .badField

/-! ## Profile area (11.4) -/

/-- The fields of the profile area as read, each word whole; bits 15..3 of word 3 are ignored. -/
def readProfile (m : Memory) : Profile × Nat :=
  ({ identity := joinWide (m.read 0) (m.read 1)
     doorsLeft := (loByte (m.read 2)).toNat
     doorsRight := (hiByte (m.read 2)).toNat
     cab1 := (m.read 3).getLsbD 0
     cab2 := (m.read 3).getLsbD 1
     sensor := (m.read 3).getLsbD 2
     z := (m.read 4).toNat
     r := (m.read 5).toNat
     f := (m.read 6).toNat
     s := (m.read 7).toNat
     mode := if m.read 8 = 1 then .dual else .quad
     closeLimit := (m.read 9).toNat
     otLimit := (m.read 10).toNat
     otHyst := (m.read 11).toNat
     hcuScale := (m.read 12).toNat
     q := (m.read 13).toNat
     powerWeight := (m.read 14).toNat
     serviceWeight := (m.read 15).toNat
     limSafety := (m.read 16).toNat
     limControl := (m.read 17).toNat
     limPower := (m.read 18).toNat
     limService := (m.read 19).toNat },
   (m.read 8).toNat)

/-- The word offset of the first field outside the range of R178, in the order of the profile area;
`modeCode` is the heater mode word. -/
def firstBadField (p : Profile) (modeCode : Nat) : Option Nat :=
  if p.identity = BitVec.allOnes 32 then some 0
  else if 4 < p.doorsLeft ∨ 4 < p.doorsRight then some 2
  else if 255 < p.z then some 4
  else if 200 < p.r ∨ (p.identity = 0 ∧ p.r ≠ 0) then some 5
  else if 255 < p.f then some 6
  else if 255 < p.s then some 7
  else if 1 < modeCode then some 8
  else if p.closeLimit < 10 ∨ 255 < p.closeLimit then some 9
  else if 400 < p.hcuScale then some 12
  else if p.q < 1 ∨ 255 < p.q then some 13
  else if p.powerWeight < 1 ∨ 31 < p.powerWeight then some 14
  else if p.serviceWeight < 1 ∨ 31 < p.serviceWeight then some 15
  else if 256 < p.limSafety then some 16
  else if 256 < p.limControl then some 17
  else if 256 < p.limPower then some 18
  else if 256 < p.limService then some 19
  else none

end Sys2Proof.Machine
end

