-- ==== Sys2Proof/Machine/Derived.lean ====
section
/-! DEFINITION. What the blocks read of one another: small functions of the records that are stored once. -/

namespace Sys2Proof.Machine

/-- The port record of a port. -/
def Blocks.port (b : Blocks) : Port → LinkPort
  | .p1 => b.port1
  | .p2 => b.port2

/-- A port counts as up for every other block while its state is UP (R13). -/
def Blocks.isUp (b : Blocks) (p : Port) : Bool := (b.port p).state == .up

/-- Own position, 0 when not positioned. -/
def Blocks.pos (b : Blocks) : Nat :=
  match b.consist.table with
  | some t => t.pos
  | none => 0

/-- N of the live table, 0 when there is none. -/
def Blocks.cars (b : Blocks) : Nat :=
  match b.consist.table with
  | some t => t.entries.length
  | none => 0

/-- The generation this car stamps and accepts: the live generation, or 0 (R53, R59). -/
def Blocks.liveGen (b : Blocks) : Byte :=
  match b.consist.table with
  | some t => t.gen
  | none => 0

/-- The away port of a live table (R21). -/
def LiveTable.away (t : LiveTable) : Port := portOther t.toward

/-- The orientation: the toward-lead end while a table is live (R23). -/
def Blocks.orientation (b : Blocks) : Option Port :=
  match b.consist.table with
  | some t => some t.toward
  | none => none

/-- Whether the role is LEAD. -/
def Blocks.isLead (b : Blocks) : Bool := b.consist.role == .lead

/-! ## Cell pool (R50, R51) -/

/-- Cells a telegram of `len` bytes occupies (R51). -/
def cellsOf (len : Nat) : Nat := (len + 31) / 32

/-- Cells a queued telegram holds. -/
def QTel.cells (q : QTel) : Nat := cellsOf (telLen q.tel)

/-- Cells of a list of queued telegrams. -/
def queueCells : List QTel → Nat
  | [] => 0
  | q :: qs => q.cells + queueCells qs

/-- Cells that the telegram in transmission holds for class `c`. -/
def txCells (c : Cls) : Transmit → Nat
  | .telegram q => if q.cls = c then q.cells else 0
  | .idle | .mark _ | .abort => 0

/-- Cells held by class `c` at a port. -/
def LinkPort.occ (lp : LinkPort) (c : Cls) : Nat :=
  queueCells (lp.queues.get (clsIdx c)) + txCells c lp.tx

/-- Class occupancy over both ports (R50). -/
def Blocks.occ (b : Blocks) (c : Cls) : Nat := b.port1.occ c + b.port2.occ c

/-- Cells held by all classes. -/
def Blocks.held (b : Blocks) : Nat :=
  b.occ .safety + b.occ .control + b.occ .power + b.occ .service

/-- Free cells of the pool. -/
def Blocks.free (b : Blocks) : Nat := Config.poolCells - b.held

/-- The class limit in force (R178). -/
def Profile.limit (p : Profile) : Cls → Nat
  | .safety => p.limSafety
  | .control => p.limControl
  | .power => p.limPower
  | .service => p.limService

/-! ## Doors -/

/-- The record of a side. -/
def Doors.side (d : Doors) : Side → SideRec
  | .left => d.left
  | .right => d.right

/-- Replace the record of a side. -/
def Doors.setSide (d : Doors) (s : Side) (r : SideRec) : Doors :=
  match s with
  | .left => { d with left := r }
  | .right => { d with right := r }

/-- The door count of a side in a profile (R87). -/
def Profile.doorCount (p : Profile) : Side → Nat
  | .left => p.doorsLeft
  | .right => p.doorsRight

/-- The configured doors of a side (R87). -/
def SideRec.configured (r : SideRec) (n : Nat) : List DoorRec := r.doors.toList.take n

/-- All configured doors of the car, left then right. -/
def Blocks.carDoors (b : Blocks) : List DoorRec :=
  b.doors.left.configured b.profile.doorsLeft ++ b.doors.right.configured b.profile.doorsRight

/-- The close limit in ticks (R91). -/
def Profile.closeTicks (p : Profile) : Nat := p.closeLimit * 10

/-- A door counted open in the summary (5.2, R113). -/
def DoorRec.isOpen (d : DoorRec) : Bool :=
  d.state == .opened || d.state == .closing || d.state == .late || d.state == .forced

/-- A door counted faulted in the summary (5.2, R113). -/
def DoorRec.isFaulted (d : DoorRec) : Bool := d.state == .late || d.state == .forced

/-- The boost condition: a configured door in OPEN or FORCED (R127). -/
def Blocks.boostCond (b : Blocks) : Bool :=
  b.carDoors.any fun d => d.state == .opened || d.state == .forced

/-- The train side a car-local side is, 0 (NONE) when ALONE (R94, R108). -/
def Blocks.trainSide (b : Blocks) (s : Side) : Nat :=
  match b.orientation with
  | none => 0
  | some .p1 => sideNum s
  | some .p2 => sideNum (otherSide s)

/-! ## Heating -/

/-- A channel that offers a code to its readers (R126). -/
def Channel.usable (c : Channel) : Bool := c.state == .valid || c.state == .stale

/-- The temperature-unavailable condition (R127). -/
def Blocks.tempUnavailable (b : Blocks) : Bool :=
  b.converter.chA.state == .noCode || b.converter.chA.state == .unavailable

/-- The draw in 0.5 A units (R135). -/
def Blocks.draw (b : Blocks) : Nat :=
  if b.monitor.chans.x1.measured then
    b.monitor.chans.x1.code.toNat * b.profile.hcuScale / 4095
  else 0

/-- Flags of a DEMAND: bit 0 overtemperature, bit 1 temperature unavailable (R140). -/
def Blocks.demandFlags (b : Blocks) : Byte :=
  byte (flagNat b.heater.latch + 2 * flagNat b.tempUnavailable)

/-- Total granted load in 0.5 A units (R151). -/
def Alloc.grantedLoad (a : Alloc) : Nat :=
  match a.table, a.grants with
  | some es, some gs => ((es.zip gs).map fun x => x.2.g * x.1.r).sum / 256
  | _, _ => 0

/-- Total measured draw in 0.5 A units (R151). -/
def Alloc.measuredDraw (a : Alloc) : Nat :=
  match a.table with
  | some es => ((es.filter (·.demanded)).map (·.draw)).sum
  | none => 0

/-- Length of a sub-cycle in slots (R158). -/
def subLen : HeaterMode → Nat
  | .quad => 64
  | .dual => 128

/-- Number of sub-cycles (R158). -/
def subCount : HeaterMode → Nat
  | .quad => 4
  | .dual => 2

/-- Pin HTR from the heater output record (R153, R159). -/
def Heater.htr (h : Heater) : Bool :=
  let ls := subLen h.mode
  let i := h.slot.toNat / ls
  let u := h.slot.toNat % ls
  !h.cut && decide ((u + ls - h.offset) % ls < h.onCounts.getD i 0)

end Sys2Proof.Machine
end

