-- ==== Sys2Proof/Machine/Flags.lean ====
section
/-! DEFINITION. The CAUSE register, INT_N and the output pins (R163, R165, R88, R159). -/

namespace Sys2Proof.Machine

/-- The five causes with their bit numbers (11.2). -/
inductive Cause where
  | slot
  | delivery
  | lost
  | page
  | drainInvalid
  deriving DecidableEq, Repr

/-- The mask of a cause in CAUSE. -/
def causeBit : Cause → BitVec 5
  | .slot => 0b00001#5
  | .delivery => 0b00010#5
  | .lost => 0b00100#5
  | .page => 0b01000#5
  | .drainInvalid => 0b10000#5

/-- Set a cause; one already set stays set (R165). -/
def Iface.setCause (i : Iface) (c : Cause) : Iface := { i with cause := i.cause ||| causeBit c }

/-- Write 1 to clear (R165); unassigned bits are ignored. -/
def Iface.clearCauses (i : Iface) (w : Word) : Iface :=
  { i with cause := i.cause &&& ~~~(w.setWidth 5) }

/-- INT_N is driven low while a cause is set whose enable is set (R165). True is low. -/
def Iface.intLow (i : Iface) : Bool := i.cause &&& i.enable != 0

/-- Pins RELL and RELR follow the side records (R88). -/
def Blocks.releasePin (b : Blocks) (s : Side) : Bool := (b.doors.side s).release

/-- Pins CLRQL and CLRQR follow the side records (R88). -/
def Blocks.closePin (b : Blocks) (s : Side) : Bool := (b.doors.side s).closeReq

/-- Pin HTR (R159). -/
def Blocks.htrPin (b : Blocks) : Bool := b.heater.htr

end Sys2Proof.Machine
end

