-- ==== Sys2Proof/Machine/Pages.lean ====
section
/-! DEFINITION. The bodies of the six pages, word by word from word 2 (11.5). -/

namespace Sys2Proof.Machine

/-- The 12 words of one port on the LINK page (R18). -/
def linkPortWords (lp : LinkPort) : List Word :=
  [word (linkStateNum lp.state)] ++ wideWords lp.nbrId ++
    [lp.nbrEnd.setWidth 16, word lp.settle, lp.lastErr, word lp.badRun, word lp.cleanRun] ++
    lp.drops.toList

/-- LINK page (R18). -/
def linkBody (b : Blocks) : List Word := linkPortWords b.port1 ++ linkPortWords b.port2

/-- Outcome and reason in one word, generation and N in the next (R48, log entry 12). -/
def outcomeWords : SweepOutcome → List Word
  | .absent => [0, 0]
  | .formed g n => [hiLo 1 0, hiLo g.toNat n]
  | .failed r _ => [hiLo 2 (failReasonNum r), 0]

/-- The fixed items of the CONSIST page (R48), words 2..22; items of an absent table or carry are 0. -/
def consistFixed (c : Consist) : List Word :=
  [word (roleNum c.role), word (portOptNum c.cabEnd), word (sweepStateNum c.sweep),
   word (attemptNum c.sweep)] ++ outcomeWords c.outcome ++
  (match c.table with
   | some t => [1, t.gen.setWidth 16, word t.entries.length, word t.pos, word (portNum t.toward)] ++
       wideWords t.leadId
   | none => [0, 0, 0, 0, 0, 0, 0]) ++
  [c.lastGen.setWidth 16, c.beaconNo, flagWord c.lastStationary] ++
  (match c.carry with
   | some k => wideWords k.leadId ++ [k.number.setWidth 16, word k.pos,
       word (match c.pendingTable with | some xs => xs.length | none => 0)]
   | none => [0, 0, 0, 0, 0])

/-- CONSIST page (R48): the entries stand from word 24, 6 words each. -/
def consistBody (b : Blocks) : List Word :=
  padWords 22 (consistFixed b.consist) ++
    match b.consist.table with
    | some t => t.entries.flatMap fun x => packBytes (entryBytes x)
    | none => []

/-- MOTION page (R85), published at window ends, so TICK is the tick at which the window ended. -/
def motionBody (b : Blocks) : List Word :=
  [word (motionStateNum b.motion.state), BitVec.ofInt 16 b.motion.lastDelta, b.motion.lastIllegal,
   flagWord b.motion.lastSaturated] ++ wideWords b.motion.odometer ++
  [word (trainDirNum b.motion.dir), word b.motion.quiet, word b.motion.clean, word b.profile.z, b.tick]

/-- The four words of a side on the DOOR page (R108). Release and close request show 1 for on and 0 for off:
DESIGN CHOICE, log entry 13. -/
def sideWords (r : SideRec) (n : Nat) : List Word :=
  [word n, flagWord r.release, flagWord r.closeReq, word (basisNum r.basis)]

/-- The four words of a door record (R108): state code 7 and zeros when it is not configured. The contact has
no assigned code and takes the order of R87: MADE 0, OPEN 1 (11.5). -/
def doorWords (configured : Bool) (d : DoorRec) : List Word :=
  if configured then [word (doorStateNum d.state), flagWord (!d.contact), d.timer, d.lastClose]
  else [7, 0, 0, 0]

/-- The four door records of a side. -/
def sideDoorWords (r : SideRec) (n : Nat) : List Word :=
  doorWords (decide (0 < n)) r.doors.x0 ++ doorWords (decide (1 < n)) r.doors.x1 ++
    doorWords (decide (2 < n)) r.doors.x2 ++ doorWords (decide (3 < n)) r.doors.x3

/-- Age of the judgement in ticks, 0 while nothing has been judged (R121). -/
def judgementAge (b : Blocks) : Word := if b.summary.judged then b.tick - b.summary.tick else 0

/-- The summary fields of the DOOR page (R121). Outside LEAD the record is inactive and N shows 0
(log entry 12). -/
def summaryWords (b : Blocks) : List Word :=
  let j := b.summary
  let t := j.total
  [flagWord b.isLead, word (resultNum j.result), word (unknownReasonNum j.result),
   if b.isLead then word b.cars else 0] ++
  [t.beacon, word t.covered, word t.openCount, word t.faulted, word t.refused, word t.list.length] ++
  padWords 4 (t.list.map word) ++ [flagWord t.more, j.tick, judgementAge b, j.late, j.malformed]

/-- DOOR page (R108, R121): the summary fields stand from word 50. The refusal latch shows 1 while set and 0
while clear: DESIGN CHOICE, log entry 13. -/
def doorBody (b : Blocks) : List Word :=
  padWords 48
    (sideWords b.doors.left b.profile.doorsLeft ++ sideWords b.doors.right b.profile.doorsRight ++
     [word (b.trainSide .left), word (b.trainSide .right)] ++
     sideDoorWords b.doors.left b.profile.doorsLeft ++
     sideDoorWords b.doors.right b.profile.doorsRight ++
     [flagWord b.doors.latch, word b.profile.closeTicks]) ++
  summaryWords b

/-- The four words of a measurement channel (R136). -/
def channelWords (c : Channel) : List Word :=
  [word (chanStateNum c.state), c.code, word c.run, word (measFaultNum c.fault)]

/-- The measurement fields of the HEAT page (R136). -/
def measurementWords (b : Blocks) : List Word :=
  wideWords (b.converter.tref.setWidth 32) ++ [flagWord (!b.converter.refGood), b.converter.refFaults] ++
  channelWords b.converter.chA ++ channelWords b.converter.chB ++
  [b.demand.setpoint, b.demand.gain.setWidth 16, b.demand.boost.setWidth 16, b.demand.d.setWidth 16,
   word (demandBasisNum b.demand.basis), flagWord b.demand.boostOn] ++
  [flagWord b.heater.latch, word (otCauseNum b.heater.latchCause)]

/-- The heater output fields of the HEAT page (R161). The on-counts always take four words, of which mode DUAL
leaves the last two 0, so that the items after them keep their place: DESIGN CHOICE, log entry 12. -/
def heaterWords (h : Heater) : List Word :=
  [word (grantStatusNum h.status), h.g.setWidth 16, h.number, h.flags.setWidth 16, h.age] ++
  [flagWord h.latch, word (otCauseNum h.latchCause), flagWord h.cut] ++
  [word (heaterModeNum h.mode), word h.target, word (dutyBasisNum h.basis)] ++
  padWords 4 (h.onCounts.map word) ++ [word h.offset, word h.offsetPos, word h.offsetCars] ++
  [h.cycles, h.slot.setWidth 16, h.malformed]

/-- The 12 words of a demand table entry (R151); d used, e and g are 0 before a computation. -/
def allocEntryWords (x : DemandEntry) (g : Option GrantLine) : List Word :=
  [word x.r, word x.f, word x.s, flagWord x.demanded, word x.d, word x.draw, x.flags.setWidth 16,
   word x.age, flagWord (decide (x.r ≠ 0))] ++
  match g with
  | some l => [word l.dUsed, word l.e, word l.g]
  | none => [0, 0, 0]

/-- The entries of the demand table in position order with the figures of the last computation. -/
def allocTableWords : List DemandEntry → List GrantLine → List Word
  | [], _ => []
  | x :: xs, [] => allocEntryWords x none ++ allocTableWords xs []
  | x :: xs, g :: gs => allocEntryWords x (some g) ++ allocTableWords xs gs

/-- The allocation fields of the HEAT page (R151): outside LEAD only the inactive mark and the budget. Of the
one word for last period and case, the period stands in the high byte and the case in the low byte: DESIGN
CHOICE, log entry 12. -/
def allocWords (b : Blocks) : List Word :=
  let a := b.alloc
  let budget : List Word := [flagWord a.budgetSet, word a.b, word a.vlow]
  if b.isLead then
    padWords 32
      ([1] ++ budget ++
       [hiLo (lastPeriodNum a.lastPeriod) (lastCaseNum a.lastPeriod), a.periodTick, a.number,
        word a.bEff, tlvWord a.tlv, flagWord a.derateUnavailable] ++
       wideWords (BitVec.ofNat 32 a.bs) ++ wideWords (BitVec.ofNat 32 a.dSum) ++
       wideWords (BitVec.ofNat 32 a.fSum) ++
       [word a.k, word (grantOutcomeNum a.outcome), word a.grantedLoad, word a.measuredDraw,
        a.malformed]) ++
    match a.table with
    | some es => allocTableWords es (a.grants.getD [])
    | none => []
  else [0] ++ budget

/-- HEAT page (R136, R161, R151): the allocation fields stand from word 64. -/
def heatBody (b : Blocks) : List Word :=
  padWords 62 (measurementWords b ++ heaterWords b.heater) ++ allocWords b

/-- The three words of a supply channel (R137). -/
def supplyWords (c : SupplyChan) : List Word := [c.code.setWidth 16, flagWord c.measured, c.age]

/-- MONITOR page (R137). -/
def monitorBody (b : Blocks) : List Word :=
  [word (monModeNum b.monitor.mode), word b.monitor.start, word b.monitor.stop, b.monitor.scanNo] ++
  supplyWords b.monitor.chans.x0 ++ supplyWords b.monitor.chans.x1 ++
  supplyWords b.monitor.chans.x2 ++ supplyWords b.monitor.chans.x3 ++ [word b.draw]

/-- The body of a page from the blocks as they stand. -/
def pageBody (p : PageId) (b : Blocks) : List Word :=
  match p with
  | .link => linkBody b
  | .consist => consistBody b
  | .motion => motionBody b
  | .door => doorBody b
  | .heat => heatBody b
  | .monitor => monitorBody b

end Sys2Proof.Machine
end

