-- ==== Sys2Proof/Machine/Ops.lean ====
section
/-! DEFINITION. The shared operations: the event in progress, notices, offers, page publications, slot completions, and how the exchange interface carries them out (R170, R172 to R177). A block has no exception entry: raising a cause or a notice is the command's effect. -/

namespace Sys2Proof.Machine

/-- What a block asks of the exchange interface while it handles an event. -/
inductive Effect where
  /-- A notice with the tick at which it was raised (R177). -/
  | notice (k : Notice) (tick d1 d2 : Word)
  /-- A telegram handed off locally, with its port or 0 for a local copy (R58, R177). -/
  | offer (port : Nat) (tick : Word) (t : Telegram)
  /-- A publication of a page with its content (R172). -/
  | publish (p : PageId) (content : List Word)
  /-- The operation a slot reports completes DONE (R170). -/
  | complete (n : Fin 16) (d1 d2 d3 : Word)
  deriving DecidableEq, Repr

/-- An event in progress: the blocks as they stand, the effects so far in order, and the pages asked
for, each of which the event publishes once when it ends. A publication that a rule gives a place among the
event's steps is an effect of that place, made by `publishNow` (log entry 7). -/
structure Ev extends Blocks where
  effects : List Effect
  asks : List PageId
  deriving DecidableEq, Repr

/-- The start of an event. -/
def Ev.start (b : Blocks) : Ev := { toBlocks := b, effects := [], asks := [] }

/-- Append an effect. -/
def Ev.emit (e : Ev) (x : Effect) : Ev := { e with effects := e.effects ++ [x] }

/-- Raise a notice with the present tick. -/
def Ev.notice (e : Ev) (k : Notice) (d1 d2 : Word) : Ev := e.emit (.notice k e.tick d1 d2)

/-- Offer a telegram to the delivery map with the present tick (R58). -/
def Ev.offer (e : Ev) (port : Nat) (t : Telegram) : Ev := e.emit (.offer port e.tick t)

/-- Ask for a publication of a page at the end of the event. -/
def Ev.ask (e : Ev) (p : PageId) : Ev := { e with asks := p :: e.asks }

/-- Publish a page at once, with its items as they stand: for the rules that publish between steps that
change the page's items (R24, R35, R38, R48, R121, R134). -/
def Ev.publishNow (e : Ev) (p : PageId) : Ev := e.emit (.publish p (pageBody p e.toBlocks))

/-- Complete a slot DONE, if one waits. -/
def Ev.complete (e : Ev) (n : Option (Fin 16)) (d1 d2 d3 : Word) : Ev :=
  match n with
  | some k => e.emit (.complete k d1 d2 d3)
  | none => e

/-- The publications of the pages asked for, each once, in page order. -/
def Ev.publications (e : Ev) : List Effect :=
  (allPages.filter fun p => p ∈ e.asks).map fun p => .publish p (pageBody p e.toBlocks)

/-- Everything the event asks of the interface. -/
def Ev.allEffects (e : Ev) : List Effect := e.effects ++ e.publications

/-- A timer that starts or restarts now. -/
def Ev.timerNow (e : Ev) : Timer := .running e.tick

/-- Whether a timer runs. -/
def Timer.isRunning : Timer → Bool
  | .stopped => false
  | .running _ => true

/-- Replace a port record. -/
def Ev.setPort (e : Ev) (p : Port) (lp : LinkPort) : Ev :=
  match p with
  | .p1 => { e with port1 := lp }
  | .p2 => { e with port2 := lp }

/-- Replace the consist record. -/
def Ev.setConsist (e : Ev) (c : Consist) : Ev := { e with consist := c }

/-- Replace the door block's records. -/
def Ev.setDoors (e : Ev) (d : Doors) : Ev := { e with doors := d }

/-- Replace the heater output record. -/
def Ev.setHeater (e : Ev) (h : Heater) : Ev := { e with heater := h }

/-- Replace the allocation record. -/
def Ev.setAlloc (e : Ev) (a : Alloc) : Ev := { e with alloc := a }

/-- Replace the judgement record. -/
def Ev.setSummary (e : Ev) (j : Judgement) : Ev := { e with summary := j }

/-- Replace the motion record. -/
def Ev.setMotion (e : Ev) (m : Motion) : Ev := { e with motion := m }

/-- Replace the converter record. -/
def Ev.setConverter (e : Ev) (c : Converter) : Ev := { e with converter := c }

/-- Replace the supply monitor's record. -/
def Ev.setMonitor (e : Ev) (m : Monitor) : Ev := { e with monitor := m }

/-- Replace the demand computer's items. -/
def Ev.setDemand (e : Ev) (d : Demand) : Ev := { e with demand := d }

/-- Replace the relay block's items. -/
def Ev.setRelay (e : Ev) (r : Relay) : Ev := { e with relay := r }

/-! ## Delivery queues (R175, R177) -/

/-- Occupancy of a queue (R175). -/
def DQueue.occupancy (q : DQueue) : Nat := (q.fill - q.validDrain).toNat

/-- The entry index that `fill` names (10.5). -/
def entryIdx (fill : BitVec 4) : Fin 8 := ⟨fill.toNat % 8, Nat.mod_lt _ (by decide)⟩

/-- Write an item into the next entry, then advance fill (R175). -/
def DQueue.push (q : DQueue) (x : Entry) : DQueue :=
  { q with entries := q.entries.set (entryIdx q.fill) x, fill := q.fill + 1 }

/-- Deliver an item to queue `k` (R175). -/
def Iface.deliverTo (i : Iface) (k : Fin 4) (x : Entry) : Iface :=
  let q := i.queues.get k
  if q.occupancy < 8 then
    let i1 := { i with queues := i.queues.set k (q.push x) }
    if q.occupancy = 0 then i1.setCause .delivery else i1
  else
    { i with queues := i.queues.set k { q with lost := satInc q.lost } }.setCause .lost

/-- The queue that a delivery map word names, if any (R177). -/
def mapQueue (w : Word) : Option (Fin 4) :=
  if h : w.toNat < 4 then some ⟨w.toNat, h⟩ else none

/-- Offer an item whose map word is `w`: discarded while DELIVER is 0 or when mapped to none (R177). -/
def Iface.offerItem (i : Iface) (w : Word) (x : Entry) : Iface :=
  if i.deliver then
    match mapQueue w with
    | some k => i.deliverTo k x
    | none => i
  else i

/-! ## Pages (R172 to R174) -/

/-- Replace page `p`. -/
def Iface.setPage (i : Iface) (p : PageId) (g : Page) : Iface :=
  { i with pages := i.pages.set (pageIdx p) g }

/-- Page `p`. -/
def Iface.page (i : Iface) (p : PageId) : Page := i.pages[pageIdx p]

/-- The next publication number: 65535 wraps to 1 (R172). -/
def nextU (u : Word) : Word := if u = BitVec.allOnes 16 then 1 else u + 1

/-- HOLD of page `p`, bit 0 of its HOLD word (11.2). -/
def pageHeld (h : Memory) (p : PageId) : Bool := (h.read (holdAddr (pageIdx p).val)).getLsbD 0

/-- The taken number T of page `p`. -/
def pageTaken (h : Memory) (p : PageId) : Word := h.read (takenAddr (pageIdx p).val)

/-- The page interrupt mask bit of page `p` (R174). -/
def pageMasked (h : Memory) (p : PageId) : Bool := (h.read pageMaskAddr).getLsbD (pageIdx p).val

/-- Set PAGE if the mask bit of the page published is 1 (R174). -/
def Iface.pageCause (i : Iface) (h : Memory) (p : PageId) : Iface :=
  if pageMasked h p then i.setCause .page else i

/-- A publication a block asks for (R172), withheld while HOLD is set (R173). -/
def Iface.publish (i : Iface) (h : Memory) (p : PageId) (content : List Word) : Iface :=
  let g := i.page p
  if pageHeld h p then
    i.setPage p { g with latest := some content, deferred := satInc g.deferred }
  else
    (i.setPage p { g with o := decide (pageTaken h p ≠ g.u), body := content, u := nextU g.u,
                          latest := some content }).pageCause h p

/-- The write that clears HOLD (R173); `h` is the memory after that write. -/
def Iface.releasePage (i : Iface) (h : Memory) (p : PageId) : Iface :=
  let g := i.page p
  if g.deferred = 0 then i
  else
    (i.setPage p { g with o := decide (2 ≤ g.deferred.toNat ∨ pageTaken h p ≠ g.u),
                          body := g.latest.getD [], u := nextU g.u, deferred := 0 }).pageCause h p

/-! ## Slots (R170) -/

/-- Slot `n`. -/
def Iface.slot (i : Iface) (n : Fin 16) : Slot := i.slots[n]

/-- Replace slot `n`. -/
def Iface.setSlot (i : Iface) (n : Fin 16) (x : Slot) : Iface := { i with slots := i.slots.set n x }

/-- Write a slot's final reply and set SLOT (R170); the slot then reports no operation. -/
def Iface.finishSlot (i : Iface) (n : Fin 16) (st : SlotState) (result d1 d2 d3 : Word) : Iface :=
  (i.setSlot n { i.slot n with state := st, result := result, d1 := d1, d2 := d2, d3 := d3,
                               op := none }).setCause .slot

/-! ## Carrying out the effects of an event -/

/-- One effect at the interface. -/
def Iface.apply (h : Memory) (i : Iface) : Effect → Iface
  | .notice k tick d1 d2 =>
    i.offerItem (h.read (noticeMapAddr (byte (noticeNum k)))) (.notice (byte (noticeNum k)) tick d1 d2)
  | .offer port tick t => i.offerItem (h.read (kindMapAddr t.hdr.kind)) (.telegram port tick t)
  | .publish p content => i.publish h p content
  | .complete n d1 d2 d3 => i.finishSlot n .done 0 d1 d2 d3

/-- All effects in order. -/
def Iface.applyAll (h : Memory) (i : Iface) (xs : List Effect) : Iface := xs.foldl (Iface.apply h) i

/-- What the owning block answers when a slot command is handed to it (R169, R170). -/
inductive TakeResult where
  | done (d1 d2 d3 : Word)
  | refused (code : ResultCode) (d1 d2 : Word)
  | taken (op : SlotOp) (d1 : Word)
  deriving DecidableEq, Repr

/-- DONE with no detail words. -/
def TakeResult.ok : TakeResult := .done 0 0 0

/-- REFUSED with no detail words. -/
def TakeResult.no (c : ResultCode) : TakeResult := .refused c 0 0

/-- End an event: its blocks stand, the interface carries out its effects. -/
def State.finish (s : State) (e : Ev) : State :=
  { s with blk := e.toBlocks, ifc := s.ifc.applyAll s.host e.allEffects }

/-- Handle one event of the blocks. -/
def runEvent (g : Ev → Ev) (s : State) : State := s.finish (g (Ev.start s.blk))

end Sys2Proof.Machine
end

