-- ==== Sys2Proof/Machine/Relay.lean ====
section
/-! DEFINITION. The relay block: drop counts, waiting sends, scheduling (R64 to R67), admission (R61 to R63), origination (R59, R60) and disposal (R15). -/

namespace Sys2Proof.Machine

/-- One more drop of class `c` (R15, R53, R63). -/
def LinkPort.addDrop (lp : LinkPort) (c : Cls) : LinkPort :=
  { lp with drops := lp.drops.set (clsIdx c) (satInc (lp.drops.get (clsIdx c))) }

/-- Count a drop at a port. -/
def Ev.drop (e : Ev) (p : Port) (c : Cls) : Ev := e.setPort p ((e.port p).addDrop c)

/-- The two detail words of a SAFETY loss notice: port and kind, destination low and high (R74). -/
def Ev.lossNotice (e : Ev) (k : Notice) (p : Port) (t : Telegram) : Ev :=
  e.notice k (hiLo (portNum p) t.hdr.kind.toNat) (hiLo t.hdr.dstLo.toNat t.hdr.dstHi.toNat)

/-! ## Waiting sends (R67, R71) -/

/-- A waiting SEND after one of its copies has left, sent or lost. -/
def WaitSend.settle (w : WaitSend) (sent : Bool) : WaitSend :=
  { w with left := w.left - 1, sent := w.sent + flagNat sent, lost := w.lost + flagNat (!sent) }

/-- Replace the waiting send with mark `id`, or remove it when no copy is left. -/
def settleIn (id : Nat) (sent : Bool) : List WaitSend → List WaitSend
  | [] => []
  | w :: ws =>
    if w.id = id then
      if (w.settle sent).left = 0 then ws else w.settle sent :: ws
    else w :: settleIn id sent ws

/-- The waiting send with mark `id`. -/
def findSend (id : Nat) (ws : List WaitSend) : Option WaitSend := ws.find? fun w => w.id = id

/-- A copy of a SEND has left the queues (R71): the SEND completes DONE when it was the last. -/
def Ev.settleCopy (e : Ev) (origin : Option Nat) (sent : Bool) : Ev :=
  match origin with
  | none => e
  | some id =>
    match findSend id e.relay.waiting with
    | none => e
    | some w =>
      let e1 := e.setRelay { e.relay with waiting := settleIn id sent e.relay.waiting }
      let v := w.settle sent
      if v.left = 0 then e1.complete v.slot v.seq (hiLo v.sent v.lost) (flagWord v.localCopy)
      else e1

/-! ## Discarding (R15) -/

/-- A telegram of a port that left UP is gone: drop count, TELEGRAM_LOST when SAFETY, its SEND settled. -/
def Ev.loseCopy (e : Ev) (p : Port) (q : QTel) : Ev :=
  let e1 := e.drop p q.cls
  let e2 := if q.cls = .safety then e1.lossNotice .telegramLost p q.tel else e1
  e2.settleCopy q.origin false

/-- A telegram addressed to a port that is not UP: discarded without taking cells. -/
def Ev.loseUnsent (e : Ev) (p : Port) (c : Cls) (t : Telegram) : Ev :=
  let e1 := e.drop p c
  if c = .safety then e1.lossNotice .telegramLost p t else e1

/-- A telegram refused admission (R63): drop count, TELEGRAM_DROPPED when SAFETY. -/
def Ev.refuseCopy (e : Ev) (p : Port) (c : Cls) (t : Telegram) : Ev :=
  let e1 := e.drop p c
  if c = .safety then e1.lossNotice .telegramDropped p t else e1

/-- Lose telegrams one after another. -/
def Ev.loseAll (e : Ev) (p : Port) : List QTel → Ev
  | [] => e
  | q :: qs => (e.loseCopy p q).loseAll p qs

/-- The transmitter after its port left UP: a telegram is cut off with the abort sequence, a mark goes on. -/
def cutTransmit : Transmit → Transmit
  | .telegram _ => .abort
  | .idle => .idle
  | .mark i => .mark i
  | .abort => .abort

/-- The telegram in transmission. -/
def txTelegram : Transmit → List QTel
  | .telegram q => [q]
  | .idle | .mark _ | .abort => []

/-- The traffic of a port in the order it is disposed of: queues by class, then the one in transmission. -/
def LinkPort.traffic (lp : LinkPort) : List QTel :=
  lp.queues.x0 ++ lp.queues.x1 ++ lp.queues.x2 ++ lp.queues.x3 ++ txTelegram lp.tx

/-- A port's relay share with empty queues (R15, R66). -/
def LinkPort.emptied (lp : LinkPort) : LinkPort :=
  { lp with queues := Quad.const [], defPower := 0, defService := 0, turn := .power,
            quantumAdded := false, tx := cutTransmit lp.tx }

/-- Dispose of all traffic of a port that has left UP (R15). -/
def Ev.disposeTraffic (e : Ev) (p : Port) : Ev :=
  (e.setPort p (e.port p).emptied).loseAll p (e.port p).traffic

/-! ## Scheduling (R64, R65) -/

/-- The queue of class `c`. -/
def LinkPort.queue (lp : LinkPort) (c : Cls) : List QTel := lp.queues.get (clsIdx c)

/-- Replace the queue of class `c`. -/
def LinkPort.setQueue (lp : LinkPort) (c : Cls) (l : List QTel) : LinkPort :=
  { lp with queues := lp.queues.set (clsIdx c) l }

/-- The class of a turn. -/
def turnCls : DrrTurn → Cls
  | .power => .power
  | .service => .service

/-- The other turn. -/
def turnOther : DrrTurn → DrrTurn
  | .power => .service
  | .service => .power

/-- The deficit of a turn's class. -/
def LinkPort.deficit (lp : LinkPort) : DrrTurn → Nat
  | .power => lp.defPower
  | .service => lp.defService

/-- Set the deficit of a turn's class. -/
def LinkPort.setDeficit (lp : LinkPort) (t : DrrTurn) (n : Nat) : LinkPort :=
  match t with
  | .power => { lp with defPower := n }
  | .service => { lp with defService := n }

/-- The quantum of a turn's class: its weight × 32 bytes (R65). -/
def quantum (f : Profile) : DrrTurn → Nat
  | .power => f.powerWeight * 32
  | .service => f.serviceWeight * 32

/-- Pass the turn to the other class with its quantum not yet added. -/
def LinkPort.passTurn (lp : LinkPort) : LinkPort :=
  { lp with turn := turnOther lp.turn, quantumAdded := false }

/-- Add the quantum if it has not been added in this turn. -/
def LinkPort.addQuantum (f : Profile) (lp : LinkPort) : LinkPort :=
  if lp.quantumAdded then lp
  else { lp.setDeficit lp.turn (lp.deficit lp.turn + quantum f lp.turn) with quantumAdded := true }

/-- Take the head `q` of the turn's queue: its length is deducted, and an emptied queue gives up its
deficit and the turn (R65). -/
def LinkPort.takeHead (lp : LinkPort) (q : QTel) (rest : List QTel) : LinkPort :=
  let lp1 := { lp.setQueue (turnCls lp.turn) rest with tx := .telegram q }
  match rest with
  | [] => (lp1.setDeficit lp.turn 0).passTurn
  | _ :: _ => lp1.setDeficit lp.turn (lp.deficit lp.turn - telLen q.tel)

/-- Deficit round robin within one offer (R65). -/
def LinkPort.roundRobin (f : Profile) : Nat → LinkPort → LinkPort
  | 0, lp => lp
  | n + 1, lp =>
    match lp.queue (turnCls lp.turn) with
    | [] => LinkPort.roundRobin f n lp.passTurn
    | q :: rest =>
      let lp1 := lp.addQuantum f
      if telLen q.tel ≤ lp1.deficit lp1.turn then lp1.takeHead q rest
      else LinkPort.roundRobin f n lp1.passTurn

/-- The scheduler's choice for an idle transmitter (R64); nothing when all queues are empty. -/
def LinkPort.schedule (f : Profile) (lp : LinkPort) : LinkPort :=
  match lp.queue .safety with
  | q :: rest => { lp.setQueue .safety rest with tx := .telegram q }
  | [] =>
    match lp.queue .control with
    | q :: rest => { lp.setQueue .control rest with tx := .telegram q }
    | [] =>
      match lp.queue .power, lp.queue .service with
      | [], [] => lp
      | _, _ => lp.roundRobin f Config.drrFuel

/-- Ask the scheduler when the port is UP with its transmitter idle (R5, R61). -/
def Ev.kick (e : Ev) (p : Port) : Ev :=
  if e.isUp p ∧ (e.port p).tx = .idle then e.setPort p ((e.port p).schedule e.profile) else e

/-! ## Admission (R61, R62) -/

/-- The admission test for `c` cells of class `k` (R61). -/
def Blocks.admission (b : Blocks) (k : Cls) (c : Nat) : Bool :=
  match k with
  | .safety => decide (c ≤ b.free) && decide (b.occ .safety + c ≤ b.profile.limit .safety)
  | .control | .power | .service =>
    decide (b.occ k + c ≤ b.profile.limit k) &&
      decide (c + (Config.safetyReserve - b.occ .safety) ≤ b.free)

/-- A telegram joins the tail of its class queue, and the scheduler is asked (R61). -/
def Ev.enqueue (e : Ev) (p : Port) (q : QTel) : Ev :=
  (e.setPort p ((e.port p).setQueue q.cls ((e.port p).queue q.cls ++ [q]))).kick p

/-- A copy for a port: the port and the telegram as it leaves there. -/
structure Copy where
  port : Port
  tel : Telegram
  deriving DecidableEq, Repr

/-- What became of the port copies of one origination (R73). -/
structure Report where
  placed : Nat := 0
  refused : Nat := 0
  down : Nat := 0
  deriving DecidableEq, Repr

/-- Lose the copies for ports that are not UP. -/
def Ev.loseCopies (e : Ev) (c : Cls) : List Copy → Ev
  | [] => e
  | x :: xs => (e.loseUnsent x.port c x.tel).loseCopies c xs

/-- Refuse copies. -/
def Ev.refuseCopies (e : Ev) (c : Cls) : List Copy → Ev
  | [] => e
  | x :: xs => (e.refuseCopy x.port c x.tel).refuseCopies c xs

/-- Queue copies. -/
def Ev.enqueueCopies (e : Ev) (c : Cls) (origin : Option Nat) : List Copy → Ev
  | [] => e
  | x :: xs => (e.enqueue x.port { cls := c, tel := x.tel, origin := origin }).enqueueCopies c origin xs

/-- Cells that copies need together (R62). -/
def copyCells (xs : List Copy) : Nat := (xs.map fun x => cellsOf (telLen x.tel)).sum

/-- Place the port copies of one telegram: copies for ports that are not UP are discarded (R15); the
others are taken whole or not at all (R62, R63). -/
def Ev.placeCopies (e : Ev) (c : Cls) (origin : Option Nat) (xs : List Copy) : Ev × Report :=
  let ups := xs.filter fun x => e.isUp x.port
  let downs := xs.filter fun x => !e.isUp x.port
  let e1 := e.loseCopies c downs
  if ups.isEmpty then (e1, { down := downs.length })
  else if e1.toBlocks.admission c (copyCells ups) then
    (e1.enqueueCopies c origin ups, { placed := ups.length, down := downs.length })
  else (e1.refuseCopies c ups, { refused := ups.length, down := downs.length })

/-! ## Origination (R59, R60) -/

/-- What an originator gives (R59). -/
structure Outgoing where
  kind : Kind
  cls : Cls
  mode : Mode
  lo : Byte := 0
  hi : Byte := 0
  flags : Byte := 0
  seq : Word := 0
  payload : List Byte
  deriving DecidableEq, Repr

/-- The destination fields the spec leaves open take the free values of this origination
(log entry 10). -/
def Outgoing.fillOpen (o : Outgoing) (i : Nat) : Outgoing :=
  match o.mode with
  | .neighbour => { o with hi := Config.openDstHi i }
  | .position | .range => o
  | .all | .lead => { o with lo := Config.openDstLo i, hi := Config.openDstHi i }

/-- The completed header (R59). -/
def Blocks.headerFor (b : Blocks) (o : Outgoing) (hops : Byte) : Header :=
  { kind := byte (kindNum o.kind), classMode := classModeByte o.cls o.mode, hops := hops,
    gen := b.liveGen, srcPos := byte b.pos, dstLo := o.lo, dstHi := o.hi, flags := o.flags,
    seq := o.seq, plen := word o.payload.length, srcId := b.profile.identity }

/-- The telegram of an origination with the given hops. -/
def Blocks.telegramFor (b : Blocks) (o : Outgoing) (hops : Byte) : Telegram :=
  { hdr := b.headerFor o hops, payload := o.payload }

/-- The hops of the toward-lead copy from position `q`, if one is sent (R60). -/
def towardHops (q : Nat) (m : Mode) (lo : Nat) : Option Nat :=
  match m with
  | .neighbour => none
  | .position | .range => if lo < q then some (q - lo) else none
  | .all | .lead => if 1 < q then some (q - 1) else none

/-- The hops of the away copy from position `q` of `n`, if one is sent (R60). -/
def awayHops (q n : Nat) (m : Mode) (lo hi : Nat) : Option Nat :=
  match m with
  | .neighbour | .lead => none
  | .position => if q < lo then some (lo - q) else none
  | .range => if q < hi then some (hi - q) else none
  | .all => if q < n then some (n - q) else none

/-- Whether a local copy is made at position `q` (R60). -/
def localDue (q : Nat) (m : Mode) (lo hi : Nat) : Bool :=
  match m with
  | .neighbour => false
  | .position => lo == q
  | .range => decide (lo ≤ q) && decide (q ≤ hi)
  | .all => true
  | .lead => q == 1

/-- The port copies of an origination in a positioned mode (R60), toward-lead copy first. -/
def Blocks.portCopies (b : Blocks) (t : LiveTable) (o : Outgoing) : List Copy :=
  (match towardHops t.pos o.mode o.lo.toNat with
   | some h => [{ port := t.toward, tel := b.telegramFor o (byte h) }]
   | none => []) ++
  (match awayHops t.pos t.entries.length o.mode o.lo.toNat o.hi.toNat with
   | some h => [{ port := t.away, tel := b.telegramFor o (byte h) }]
   | none => [])

/-- What an origination yields: the report on the port copies and the local copy, if one is due. -/
structure Originated where
  report : Report
  localTel : Option Telegram
  deriving DecidableEq, Repr

/-- Originate a telegram in a positioned mode (R59, R60). Without a live table nothing is built. The
caller hands the local copy to its consumer and then to the delivery map. -/
def Ev.originate (e : Ev) (o : Outgoing) (origin : Option Nat := none) : Ev × Originated :=
  match e.consist.table with
  | none => (e, { report := {}, localTel := none })
  | some t =>
    let o1 := o.fillOpen e.origCount
    let placed := { e with origCount := e.origCount + 1 }.placeCopies o1.cls origin
      (e.toBlocks.portCopies t o1)
    let tel :=
      if localDue t.pos o1.mode o1.lo.toNat o1.hi.toNat then
        some (e.toBlocks.telegramFor o1 (Config.localHops e.origCount))
      else none
    (placed.1, { report := placed.2, localTel := tel })

/-- Offer a local copy to the delivery map, with port 0 (R58, R177). -/
def Ev.offerLocal (e : Ev) (t : Option Telegram) : Ev :=
  match t with
  | some x => e.offer 0 x
  | none => e

/-- Send a telegram in mode NEIGHBOUR on a port (R29, R60): hops 0. -/
def Ev.sendNeighbour (e : Ev) (p : Port) (o : Outgoing) (origin : Option Nat := none) :
    Ev × Report :=
  let o1 := { o with mode := .neighbour, lo := byte (portNum p) }.fillOpen e.origCount
  { e with origCount := e.origCount + 1 }.placeCopies o1.cls origin
    [{ port := p, tel := e.toBlocks.telegramFor o1 0 }]

/-- Send a sweep-family telegram on a port (R29): class CONTROL, mode NEIGHBOUR. -/
def Ev.sendFamily (e : Ev) (p : Port) (k : Kind) (payload : List Byte) : Ev :=
  (e.sendNeighbour p { kind := k, cls := .control, mode := .neighbour, payload := payload }).1

end Sys2Proof.Machine
end

