-- ==== Sys2Proof/Machine/Heating.lean ====
section
/-! DEFINITION. Chapter 7: demand computer, ratio converter, overtemperature latch, supply monitor. -/

namespace Sys2Proof.Machine

/-! ## Demand (R127, R128) -/

/-- The base of the demand: (setpoint − c) × gain / 256, 0 when negative. -/
def demandBase (setpoint : Word) (c : Word) (gain : Byte) : Nat :=
  (setpoint.toNat - c.toNat) * gain.toNat / 256

/-- The demand formed from the items as they stand (R127). -/
def Blocks.formDemand (b : Blocks) : Demand :=
  let on := b.boostCond
  if b.converter.chA.usable then
    { b.demand with
      d := byte (min 255 (demandBase b.demand.setpoint b.converter.chA.code b.demand.gain +
        if on then b.demand.boost.toNat else 0))
      basis := .code, boostOn := on }
  else { b.demand with d := byte b.profile.s, basis := .standby, boostOn := on }

/-- Recompute the demand (R128). -/
def Ev.recompute (e : Ev) : Ev := e.setDemand e.toBlocks.formDemand

/-- HEAT_SET (R129): a gain is a byte, so only the boost can be out of range. -/
def Ev.heatSet (e : Ev) (setpoint : Word) (gain boost : Byte) : Ev × TakeResult :=
  if 64 < boost.toNat then (e, .no .badField)
  else
    let e1 := (e.setDemand { e.demand with setpoint := setpoint, gain := gain, boost := boost }).recompute
    (e1, .done (e1.demand.d.setWidth 16) 0 0)

/-! ## Channels and the overtemperature latch (R126, R130) -/

/-- A result of a channel (R126). -/
inductive ChanResult where
  | valid (code : Word)
  | failure (f : MeasFault)
  deriving DecidableEq, Repr

/-- The channel after a failure (R126): `run` is the failure run after it. -/
def failedState (st : ChanState) (run : Nat) : ChanState :=
  match st with
  | .noCode => if run < 5 then .noCode else .unavailable
  | .valid => .stale
  | .stale => if run < 5 then .stale else .unavailable
  | .unavailable => .unavailable
  | .unused => .unused

/-- The channel after a result (R126); an UNUSED channel has none. -/
def Channel.result (c : Channel) (x : ChanResult) : Channel :=
  match c.state, x with
  | .unused, _ => c
  | _, .valid code => { state := .valid, code := code, run := 0, fault := .absent }
  | st, .failure f =>
    let run := min 5 (c.run + 1)
    { c with state := failedState st run, run := run, fault := f }

/-- Set the latch (R130): the cycle in progress is cut at once (R160). -/
def Ev.setLatch (e : Ev) (cause : OtCause) (code : Word) : Ev :=
  (e.setHeater { e.heater with latch := true, latchCause := cause, cut := true }).notice
    .heaterOvertemp (word (otCauseNum cause)) code

/-- Clear the latch; the cause of its last setting is kept. -/
def Ev.clearLatch (e : Ev) : Ev := e.setHeater { e.heater with latch := false }

/-- The latch after a channel B result (R130); `before` is the channel before it. With hysteresis 0 a code equal to
the limit meets the first and the third row of R130's table, and the first is taken: DESIGN CHOICE, log entry 41. -/
def Ev.examineLatch (e : Ev) (before : Channel) (x : ChanResult) : Ev :=
  match x with
  | .valid c =>
    if e.profile.otLimit ≤ c.toNat then
      if e.heater.latch then e else e.setLatch .code c
    else if c.toNat ≤ e.profile.otLimit - e.profile.otHyst then e.clearLatch
    else e
  | .failure _ =>
    if before.state ≠ .unavailable ∧ e.converter.chB.state = .unavailable ∧ ¬ e.heater.latch then
      e.setLatch .unavailable e.converter.chB.code
    else e

/-- TEMP_UNAVAILABLE on entry to UNAVAILABLE (R126, R138). -/
def Ev.noteUnavailable (e : Ev) (ch : Chan) (before after : Channel) : Ev :=
  if before.state ≠ .unavailable ∧ after.state = .unavailable then
    e.notice .tempUnavailable (hiLo (chanNum ch) (measFaultNum after.fault)) after.code
  else e

/-- A result of channel A: the demand is recomputed (R126). -/
def Ev.resultA (e : Ev) (x : ChanResult) : Ev :=
  let c := e.converter.chA.result x
  (((e.setConverter { e.converter with chA := c }).noteUnavailable .a e.converter.chA c).recompute).ask
    .heat

/-- A result of channel B: the latch is examined (R126, R130). -/
def Ev.resultB (e : Ev) (x : ChanResult) : Ev :=
  let c := e.converter.chB.result x
  (((e.setConverter { e.converter with chB := c }).noteUnavailable .b e.converter.chB c).examineLatch
    e.converter.chB x).ask .heat

/-! ## Phases (R124, R125) -/

/-- Begin a phase: time base and measurement counter start from 0. -/
def Ev.beginPhase (e : Ev) (ph : Phase) : Ev :=
  e.setConverter { e.converter with phase := ph, timeBase := 0, counter := 0 }

/-- Whether channel B is in use (R131). -/
def Blocks.bInUse (b : Blocks) : Bool := b.converter.chB.state != .unused

/-- The phase after a completed reference phase (R124, R125). -/
def Blocks.afterRef (b : Blocks) : Phase → Phase
  | .refA => .senseA
  | .refB => if b.bInUse then .senseB else .refA
  | .senseA => .senseA
  | .senseB => .senseB

/-- A reference phase completes at its 4,096th edge with the time base at `tb` (R124). -/
def Ev.refComplete (e : Ev) (tb : BitVec 20) : Ev :=
  match e.converter.phase with
  | .refA | .refB =>
    (e.setConverter { e.converter with tref := tb, refGood := true }).beginPhase
      (e.toBlocks.afterRef e.converter.phase)
  | .senseA | .senseB => e

/-- The channel whose phase an abort skips: none when channel B is UNUSED (R138). -/
def Blocks.skippedChan (b : Blocks) : Phase → Option Chan
  | .refA => some .a
  | .refB => if b.bInUse then some .b else none
  | .senseA | .senseB => none

/-- The abort's own items: fault count, condition and REFERENCE_FAULT (R124, R138). -/
def Ev.countAbort (e : Ev) (ch : Option Chan) : Ev :=
  let n := satInc e.converter.refFaults
  let e1 := e.setConverter { e.converter with refFaults := n, refGood := false }
  if e.converter.refGood then
    e1.notice .referenceFault (word (match ch with | some c => chanNum c | none => 0)) n
  else e1

/-- A reference phase aborts (R124): the skipped sensor phase is a failed measurement of its channel,
and the cycle passes to the next reference phase. -/
def Ev.refAbort (e : Ev) : Ev :=
  match e.converter.phase with
  | .refA =>
    ((e.countAbort (some .a)).resultA (.failure .reference)).beginPhase .refB
  | .refB =>
    match e.toBlocks.skippedChan .refB with
    | some _ => ((e.countAbort (some .b)).resultB (.failure .reference)).beginPhase .refA
    | none => (e.countAbort none).beginPhase .refA
  | .senseA | .senseB => e

/-- A sensor phase ends with a result (R125). -/
def Ev.senseResult (e : Ev) (x : ChanResult) : Ev :=
  match e.converter.phase with
  | .senseA => (e.resultA x).beginPhase .refB
  | .senseB => (e.resultB x).beginPhase .refA
  | .refA | .refB => e

/-- The result of a count at Tref: valid from 16 up (R125). -/
def countResult (count : Word) : ChanResult :=
  if 16 ≤ count.toNat then .valid count else .failure .sensor

/-- REFERENCE_PHASE_COMPLETE (R124). -/
def execReferencePhaseComplete (tb : BitVec 20) (s : State) : Host.Outcome State Fault Refusal :=
  .next (runEvent (fun e => e.refComplete tb) s)

/-- REFERENCE_ABORT (R124). -/
def execReferenceAbort (s : State) : Host.Outcome State Fault Refusal :=
  .next (runEvent (fun e => e.refAbort) s)

/-- SENSOR_PHASE_END (R125): the time base has reached Tref with this count. -/
def execSensorPhaseEnd (count : Word) (s : State) : Host.Outcome State Fault Refusal :=
  .next (runEvent (fun e => e.senseResult (countResult count)) s)

/-- MEASURE_OVERFLOW (R125): the counter would pass 65535. -/
def execMeasureOverflow (s : State) : Host.Outcome State Fault Refusal :=
  .next (runEvent (fun e => e.senseResult (.failure .overflow)) s)

/-! ## Adoption (R128, R131) -/

/-- Channel B and the latch at an adoption that changed the limit from `old` (R131). -/
def Ev.adoptLimit (e : Ev) (old : Nat) : Ev :=
  let new := e.profile.otLimit
  if old = 0 ∧ new ≠ 0 then
    e.setConverter { e.converter with chB := { state := .noCode } }
  else if old ≠ 0 ∧ new = 0 then
    let e1 := (e.setConverter { e.converter with chB := { state := .unused } }).clearLatch
    if e.converter.phase = .senseB then e1.beginPhase .refA else e1
  else e

/-- The demand at an adoption that changed s from `old` (R128). -/
def Ev.adoptStandby (e : Ev) (old : Nat) : Ev :=
  if old ≠ e.profile.s ∧ e.toBlocks.tempUnavailable then e.recompute else e

/-! ## Supply monitor (R132 to R134) -/

/-- Start a scan of the range. -/
def Ev.startScan (e : Ev) : Ev :=
  e.setMonitor { e.monitor with scan := .scanning e.monitor.start [] }

/-- The monitor with a new mode and range, its scan abandoned and its period timer stopped (R133). -/
def Monitor.accept (m : Monitor) (start stop : Nat) (mode : MonMode) : Monitor :=
  { m with scan := .idle, period := .stopped, waitSlot := none, start := start, stop := stop,
           mode := mode }

/-- MONITOR taken from slot `n` (R133). -/
def Ev.monitorCommand (e : Ev) (n : Fin 16) (start stop mode : Byte) : Ev × TakeResult :=
  match monModeOf mode.toNat with
  | none => (e, .no .badField)
  | some m =>
    if 3 < start.toNat ∨ 3 < stop.toNat ∨ stop.toNat < start.toNat then (e, .no .badField)
    else
      let e1 := (e.setMonitor (e.monitor.accept start.toNat stop.toNat m)).complete e.monitor.waitSlot 2 0 0
      match m with
      | .off => (e1.ask .monitor, .ok)
      | .once => ((e1.setMonitor { e1.monitor with waitSlot := some n }).startScan, .taken .once 0)
      | .continuous =>
        ((e1.setMonitor { e1.monitor with period := e1.timerNow }).startScan, .ok)
      | .onBeacon => (e1, .ok)

/-- A completed scan's code in channel `i` when the range includes it (R134). -/
def scanned (m : Monitor) (i : Nat) (code : BitVec 12) (c : SupplyChan) : SupplyChan :=
  if m.start ≤ i ∧ i ≤ m.stop then { code := code, measured := true, age := 0 } else c

/-- The last channel of the range has been converted (R134). In mode ONCE the page shows the mode the
scan ran in, and the mode becomes OFF after it. -/
def Ev.scanDone (e : Ev) (c0 c1 c2 c3 : BitVec 12) : Ev :=
  match e.monitor.scan with
  | .idle => e
  | .scanning _ _ =>
    let m := e.monitor
    let e1 := (e.setMonitor
      { m with scan := .idle, scanNo := m.scanNo + 1
               chans := { x0 := scanned m 0 c0 m.chans.x0, x1 := scanned m 1 c1 m.chans.x1
                          x2 := scanned m 2 c2 m.chans.x2, x3 := scanned m 3 c3 m.chans.x3 } }).publishNow
      .monitor
    match m.mode with
    | .once =>
      (e1.setMonitor { e1.monitor with mode := .off, waitSlot := none }).complete m.waitSlot 1
        (m.scanNo + 1) 0
    | .off | .continuous | .onBeacon => e1

/-- The period timer expires in CONTINUOUS: a scan starts and the timer restarts (R134). -/
def Ev.periodExpiry (e : Ev) : Ev :=
  if e.monitor.period.isRunning then
    (e.setMonitor { e.monitor with period := e.timerNow }).startScan
  else e

/-- A beacon handed to the monitor (R134): ignored when a scan is in progress. -/
def Ev.monitorBeacon (e : Ev) : Ev :=
  match e.monitor.mode, e.monitor.scan with
  | .onBeacon, .idle => e.startScan
  | _, _ => e

/-- PERIOD_TIMER_EXPIRY (R134). -/
def execPeriodTimerExpiry (s : State) : Host.Outcome State Fault Refusal :=
  .next (runEvent (fun e => e.periodExpiry) s)

/-- SCAN_COMPLETE (R134). -/
def execScanComplete (c0 c1 c2 c3 : BitVec 12) (s : State) : Host.Outcome State Fault Refusal :=
  .next (runEvent (fun e => e.scanDone c0 c1 c2 c3) s)

end Sys2Proof.Machine
end

