-- ==== Sys2Proof/Machine/Doors.lean ====
section
/-! DEFINITION. Chapter 5: door, side and car records, release and close, withdrawal, DOOR telegram and command. -/

namespace Sys2Proof.Machine

/-! ## One side (R92, R95, R97) -/

/-- Every configured, non-isolated door of the side is CLOSED (R92). -/
def SideRec.allClosed (r : SideRec) (n : Nat) : Bool :=
  (r.configured n).all fun d => d.state == .closed || d.state == .isolated

/-- The examination of the close request (R92). -/
def SideRec.examine (r : SideRec) (n : Nat) : SideRec :=
  if r.allClosed n then { r with closeReq := false } else r

/-- A door of a side that is closed: OPEN and FORCED doors start closing (R95). -/
def DoorRec.close (d : DoorRec) : DoorRec :=
  match d.state with
  | .opened | .forced => { d with state := .closing, timer := 0, limitDue := none }
  | .closing | .late | .closed | .isolated => d

/-- A CLOSE or withdrawal on a side with `n` doors (R95, R99). -/
def SideRec.close (r : SideRec) (n : Nat) : SideRec :=
  { r with release := false, basis := .absent, closeReq := true,
           doors := r.doors.mapFirst n DoorRec.close }.examine n

/-- A door of a side that is released (R97); its timer stops where it stands. -/
def DoorRec.release (d : DoorRec) : DoorRec :=
  match d.state with
  | .closing | .late | .forced => { d with state := .opened }
  | .opened | .closed | .isolated => d

/-- An admitted release on a side with `n` doors (R97). -/
def SideRec.doRelease (r : SideRec) (n : Nat) (b : Basis) : SideRec :=
  { r with closeReq := false, release := true, basis := b, doors := r.doors.mapFirst n DoorRec.release }

/-- Replace door `d` of a side. -/
def SideRec.setDoor (r : SideRec) (d : Fin 4) (x : DoorRec) : SideRec :=
  { r with doors := r.doors.set d x }

/-- A door derived from its contact and its side (R106, R93). -/
def SideRec.derive (r : SideRec) (x : DoorRec) : DoorRec :=
  if x.contact then { x with state := .closed }
  else if r.release then { x with state := .opened }
  else if r.closeReq then { x with state := .closing, timer := 0, limitDue := none }
  else { x with state := .forced }

/-! ## What follows any change of the door records (R108, R128) -/

/-- What R108 publishes a change of: door states, releases, close requests, the latch. -/
def Blocks.doorView (b : Blocks) : List Nat :=
  (b.carDoors.map fun d => doorStateNum d.state) ++
    [flagNat b.doors.left.release, flagNat b.doors.left.closeReq, flagNat b.doors.right.release,
     flagNat b.doors.right.closeReq, flagNat b.doors.latch]

/-- Ask for the DOOR page when the view has changed since `b` (R108), and recompute the demand when the
boost condition has changed (R128). -/
def Ev.doorsSettled (e : Ev) (b : Blocks) : Ev :=
  let e1 := if e.toBlocks.doorView = b.doorView then e else e.ask .door
  if e1.toBlocks.boostCond = b.boostCond then e1 else e1.recompute

/-- DOOR_FORCED for a door (R109). -/
def Ev.noteForced (e : Ev) (s : Side) (d : Fin 4) : Ev :=
  e.notice .doorForced (hiLo (sideNum s) (d.val + 1)) (word e.pos)

/-- Whether door `d` of a side is configured (R87). -/
def Blocks.doorConfigured (b : Blocks) (s : Side) (d : Fin 4) : Bool :=
  decide (d.val < b.profile.doorCount s)

/-! ## The close limit (R91) -/

/-- A door at a tick: the close timer runs in CLOSING and LATE, and a CLOSING door's is compared with the limit in
force at this tick; a timer that has reached it makes the entry to LATE due (R91, log entry 20). -/
def DoorRec.tick (limit : Nat) (x : DoorRec) : DoorRec :=
  match x.state with
  | .closing =>
    { x with timer := satInc x.timer
             limitDue := if limit ≤ (satInc x.timer).toNat then some (word limit) else none }
  | .late => { x with timer := satInc x.timer }
  | .opened | .forced | .closed | .isolated => x

/-- All close timers at a tick. -/
def Blocks.doorsTicked (b : Blocks) : Doors :=
  let f := DoorRec.tick b.profile.closeTicks
  { b.doors with
    left := { b.doors.left with doors := b.doors.left.doors.mapFirst b.profile.doorsLeft f }
    right := { b.doors.right with doors := b.doors.right.doors.mapFirst b.profile.doorsRight f } }

/-- A door whose limit is due enters LATE, an event of its own at the door block, with its notice and its
publication (R91, R108, R109). Nothing else does: a door not due is left as it is. -/
def Ev.closeLimit (e : Ev) (s : Side) (d : Fin 4) : Ev :=
  let r := e.doors.side s
  let x := r.doors.get d
  match x.limitDue with
  | some limit =>
    if e.toBlocks.doorConfigured s d ∧ x.state = .closing then
      ((e.setDoors (e.doors.setSide s (r.setDoor d { x with state := .late, limitDue := none }))).notice .doorLate
        (hiLo (sideNum s) (d.val + 1)) limit).publishNow .door
    else e
  | none => e

/-- The doors of a side whose limit is due, in ascending order of their numbers: DESIGN CHOICE, log entry 20. -/
def Ev.sideLimits (e : Ev) (s : Side) : Ev :=
  (((e.closeLimit s 0).closeLimit s 1).closeLimit s 2).closeLimit s 3

/-- Every door whose limit is due, those of the left side first: DESIGN CHOICE, log entry 20. -/
def Ev.closeLimits (e : Ev) : Ev := (e.sideLimits .left).sideLimits .right

/-! ## Contact events (R89, R90) -/

/-- A door after a contact make (R90). -/
def DoorRec.makes (x : DoorRec) : DoorRec :=
  match x.state with
  | .opened | .forced => { x with contact := true, state := .closed }
  | .closing | .late => { x with contact := true, state := .closed, lastClose := x.timer }
  | .closed | .isolated => { x with contact := true }

/-- A contact makes (R90); the close request of the side is examined after it (R92). -/
def Ev.makeContact (e : Ev) (s : Side) (d : Fin 4) : Ev :=
  let r := e.doors.side s
  if e.toBlocks.doorConfigured s d then
    (e.setDoors (e.doors.setSide s
      ((r.setDoor d (r.doors.get d).makes).examine (e.profile.doorCount s)))).doorsSettled e.toBlocks
  else e.setDoors (e.doors.setSide s (r.setDoor d { r.doors.get d with contact := true }))

/-- A contact makes after the ticks before it: where the tick that reached the limit was taken first, the door
enters LATE first (R91, log entry 20). -/
def Ev.contactMakes (e : Ev) (s : Side) (d : Fin 4) : Ev := (e.closeLimit s d).makeContact s d

/-- A contact opens (R90). Only a CLOSED door changes state; OPEN and its kin have an open contact
already, and an isolated door records the level alone. -/
def Ev.contactOpens (e : Ev) (s : Side) (d : Fin 4) : Ev :=
  let r := e.doors.side s
  let x : DoorRec := { r.doors.get d with contact := false }
  if e.toBlocks.doorConfigured s d ∧ x.state = .closed then
    let y := r.derive x
    let e1 := e.setDoors (e.doors.setSide s (r.setDoor d y))
    let e2 := if y.state = .forced then e1.noteForced s d else e1
    e2.doorsSettled e.toBlocks
  else e.setDoors (e.doors.setSide s (r.setDoor d x))

/-! ## Release and close (R94 to R98) -/

/-- A CLOSE on a car-local side (R95). -/
def Ev.closeSide (e : Ev) (s : Side) : Ev :=
  (e.setDoors (e.doors.setSide s ((e.doors.side s).close (e.profile.doorCount s)))).doorsSettled e.toBlocks

/-- The motion condition (R96): the basis of the release, or the reason of its refusal. `flag` is the
telegram's stationary flag or the command's attestation, `basis` what it gives without a sensor. -/
def Blocks.motionCondition (b : Blocks) (flag : Bool) (basis : Basis) : Except ResultCode Basis :=
  match b.motion.state with
  | .stopped => .ok .sensor
  | .moving => .error .moving
  | .unknown | .faulted => .error .motionUnknown
  | .unfitted => if flag then .ok basis else .error .notStationary

/-- Where a release comes from, for DOOR_REFUSED (R109, R184). -/
inductive ReleaseSource where
  | telegram (trainSide : Nat) (flag : Bool)
  | command
  deriving DecidableEq, Repr

/-- DOOR_REFUSED (R109, R184). -/
def Ev.noteRefused (e : Ev) (src : ReleaseSource) (why : ResultCode) (s : Side) : Ev :=
  let d1 := fun k : Nat => word (k * 16384 + resultCodeNum why * 256 + sideNum s)
  match src with
  | .telegram ts f =>
    e.notice .doorRefused (d1 1) (word (motionStateNum e.motion.state * 256 + ts * 16 + flagNat f))
  | .command => e.notice .doorRefused (d1 2) (word (motionStateNum e.motion.state * 256))

/-- An admitted release at the door block (R97); a door whose limit a tick before it has reached enters LATE first
(R91, log entry 20). -/
def Ev.admitRelease (e : Ev) (s : Side) (b : Basis) : Ev :=
  let e1 := e.sideLimits s
  (e1.setDoors (e1.doors.setSide s
    ((e1.doors.side s).doRelease (e1.profile.doorCount s) b))).doorsSettled e1.toBlocks

/-- A release of a car-local side (R96 to R98): none when it was admitted or the side has no doors, else
the reason of the refusal. -/
def Ev.releaseSide (e : Ev) (s : Side) (flag : Bool) (basis : Basis) (src : ReleaseSource) :
    Ev × Option ResultCode :=
  if e.profile.doorCount s = 0 then (e, none)
  else
    match e.toBlocks.motionCondition flag basis with
    | .ok b => (e.admitRelease s b, none)
    | .error why =>
      (((e.setDoors { e.doors with latch := true }).noteRefused src why s).doorsSettled e.toBlocks, some why)

/-! ## Withdrawal (R99) -/

/-- Configured, non-isolated doors of a side that are not CLOSED (R109). -/
def SideRec.notClosed (r : SideRec) (n : Nat) : Nat :=
  ((r.configured n).filter fun d => d.state != .closed && d.state != .isolated).length

/-- A side at a withdrawal: only a released side is treated. -/
def SideRec.withdraw (r : SideRec) (n : Nat) : SideRec := if r.release then r.close n else r

/-- The doors of a side that count in MOTION_WITHDRAW. -/
def SideRec.withdrawnCount (r : SideRec) (n : Nat) : Nat := if r.release then r.notClosed n else 0

/-- Withdraw every release that is on (R99), with the motion state as it now stands. -/
def Ev.withdraw (e : Ev) : Ev :=
  let l := e.doors.left
  let r := e.doors.right
  if l.release ∨ r.release then
    ((e.setDoors { e.doors with left := l.withdraw e.profile.doorsLeft
                                right := r.withdraw e.profile.doorsRight }).notice .motionWithdraw
      (hiLo (flagNat l.release + 2 * flagNat r.release) (motionStateNum e.motion.state))
      (word (l.withdrawnCount e.profile.doorsLeft + r.withdrawnCount e.profile.doorsRight))).doorsSettled
      e.toBlocks
  else e

/-! ## DOOR telegram (R94, R101) -/

/-- The car-local side a train side is (R94); without a table the sides are car-local already (R23). -/
def Blocks.localSide (b : Blocks) (s : Side) : Side :=
  match b.orientation with
  | some .p2 => otherSide s
  | some .p1 | none => s

/-- The sides a side code names: LEFT 1, RIGHT 2, BOTH 3. -/
def sidesOf (code : Nat) : Option (List Side) :=
  match code with
  | 1 => some [.left]
  | 2 => some [.right]
  | 3 => some [.left, .right]
  | _ => none

/-- Close car-local sides one after another. -/
def Ev.closeSides (e : Ev) : List Side → Ev
  | [] => e
  | s :: ss => (e.closeSide s).closeSides ss

/-- A DOOR telegram at the door block (R101); a malformed payload is ignored. -/
def Ev.takeDoor (e : Ev) (payload : List Byte) : Ev :=
  match parseDoor payload with
  | none => e
  | some b =>
    match b.action.toNat, sidesOf b.side.toNat with
    | 1, some [s] =>
      (e.releaseSide (e.toBlocks.localSide s) b.stationary .flag (.telegram (sideNum s) b.stationary)).1
    | 2, some ss => e.closeSides (ss.map e.toBlocks.localSide)
    | _, _ => e

/-! ## DOOR command (R102 to R106) -/

/-- ISOLATE (R105). -/
def Ev.isolateDoor (e : Ev) (s : Side) (d : Fin 4) : Ev :=
  let r := e.doors.side s
  let x := r.doors.get d
  if x.state = .isolated then e
  else
    (e.setDoors (e.doors.setSide s
      ((r.setDoor d { x with state := .isolated }).examine (e.profile.doorCount s)))).doorsSettled e.toBlocks

/-- ISOLATE after the ticks before it: a door whose limit they have reached enters LATE first (R91, log
entry 20). -/
def Ev.isolate (e : Ev) (s : Side) (d : Fin 4) : Ev := (e.closeLimit s d).isolateDoor s d

/-- RESTORE (R106). -/
def Ev.restore (e : Ev) (s : Side) (d : Fin 4) : Ev :=
  let r := e.doors.side s
  let x := r.doors.get d
  if x.state = .isolated then
    let y := r.derive x
    let e1 := e.setDoors (e.doors.setSide s (r.setDoor d y))
    let e2 := if y.state = .forced then e1.noteForced s d else e1
    e2.doorsSettled e.toBlocks
  else e

/-- Parameters of a DOOR command (5.6); `attest` is true for attestation byte 1 (log entry 14). -/
structure DoorCmd where
  action : Nat
  scope : Nat
  side : Nat
  lo : Nat
  hi : Nat
  number : Nat
  attest : Bool
  deriving DecidableEq, Repr

/-- The range 0, 0 means ALL (11.3). -/
def DoorCmd.isAll (c : DoorCmd) : Bool := c.lo == 0 && c.hi == 0

/-- The stationary flag the lead sends (R103): its own axle, or the attestation without a sensor. -/
def Blocks.doorFlag (b : Blocks) (attest : Bool) : Bool :=
  match b.motion.state with
  | .unfitted => attest
  | .stopped => true
  | .unknown | .moving | .faulted => false

/-- A range of a train command outside 1..32 or reversed (R102, row 4). -/
def DoorCmd.badRange (c : DoorCmd) : Bool :=
  !c.isAll && (decide (c.lo < 1) || decide (32 < c.lo) || decide (c.hi < 1) || decide (32 < c.hi) ||
    decide (c.hi < c.lo))

/-- The DOOR telegram of a train command (R103). -/
def Blocks.doorOutgoing (b : Blocks) (c : DoorCmd) : Outgoing :=
  { kind := .door, cls := .safety, mode := if c.isAll then .all else .range,
    lo := byte c.lo, hi := byte c.hi,
    payload := doorPayload { action := byte c.action, side := byte c.side
                             stationary := b.doorFlag c.attest } }

/-- The slot of a train command by the fate of its port copy (R103). -/
def doorReply (r : Report) (acted : Bool) : TakeResult :=
  if r.refused ≠ 0 then .refused .noBuffer 0 (flagWord acted)
  else if r.placed ≠ 0 then .done 1 (flagWord acted) 0
  else if r.down ≠ 0 then .done 3 (flagWord acted) 0
  else .done 2 (flagWord acted) 0

/-- The local copy of a DOOR telegram: the lead's own door block, then the delivery map. -/
def Ev.takeLocalDoor (e : Ev) (t : Option Telegram) : Ev :=
  match t with
  | some x => (e.takeDoor x.payload).offerLocal (some x)
  | none => e

/-- RELEASE or CLOSE in TRAIN scope (R103). -/
def Ev.trainDoor (e : Ev) (c : DoorCmd) : Ev × TakeResult :=
  if e.consist.role ≠ .lead then (e, .no .notLead)
  else if c.action = 1 ∧ e.consist.sweep ≠ .idle then (e, .no .sweepInProgress)
  else if !c.isAll && decide (e.cars < c.hi) then (e, .no .badDestination)
  else
    let x := e.originate (e.toBlocks.doorOutgoing c)
    (x.1.takeLocalDoor x.2.localTel, doorReply x.2.report x.2.localTel.isSome)

/-- RELEASE or CLOSE in CAR scope (R104). -/
def Ev.carDoor (e : Ev) (c : DoorCmd) (ss : List Side) : Ev × TakeResult :=
  if c.action = 2 then (e.closeSides ss, .ok)
  else if e.consist.role ≠ .alone then (e, .no .notAuthorized)
  else
    match ss with
    | [s] =>
      match e.releaseSide s c.attest .attestation .command with
      | (e1, none) => (e1, .ok)
      | (e1, some why) => (e1, .no why)
    | _ => (e, .no .badField)

/-- A DOOR command (R102): the checks in their order, then the action. -/
def Ev.doorCommand (e : Ev) (c : DoorCmd) : Ev × TakeResult :=
  match sidesOf c.side with
  | none => (e, .no .badField)
  | some ss =>
    if c.action < 1 ∨ 4 < c.action ∨ c.scope < 1 ∨ 2 < c.scope then (e, .no .badField)
    else if c.action = 2 then
      if c.scope = 1 then
        if c.badRange then (e, .no .badField) else e.trainDoor c
      else e.carDoor c ss
    else
      match ss with
      | [s] =>
        if c.action = 1 then
          if c.scope = 1 then
            if c.badRange then (e, .no .badField) else e.trainDoor c
          else e.carDoor c ss
        else if h : 1 ≤ c.number ∧ c.number ≤ 4 then
          if e.profile.doorCount s < c.number then (e, .no .badField)
          else if c.action = 3 then (e.isolate s ⟨c.number - 1, by omega⟩, .ok)
          else (e.restore s ⟨c.number - 1, by omega⟩, .ok)
        else (e, .no .badField)
      | _ => (e, .no .badField)

/-! ## Adoption of door counts (R93) -/

/-- Doors of a side that forbid a change of its count (R179, row 3). -/
def SideRec.blocksCount (r : SideRec) (n : Nat) : Bool := (r.configured n).any DoorRec.isOpen

/-- Door `d` of a side whose count goes from `old` to `new` (R93). -/
def SideRec.reconfigure (r : SideRec) (old new : Nat) (d : Fin 4) : DoorRec :=
  let x := r.doors.get d
  if d.val < old ∧ d.val < new then x
  else if d.val < new then r.derive { contact := x.contact }
  else { contact := x.contact }

/-- A side whose count goes from `old` to `new` (R93). -/
def SideRec.adopt (r : SideRec) (old new : Nat) : SideRec :=
  if old = new then r
  else { r with doors := { x0 := r.reconfigure old new 0, x1 := r.reconfigure old new 1
                           x2 := r.reconfigure old new 2, x3 := r.reconfigure old new 3 } }

/-- DOOR_FORCED for the doors of a side that became configured as FORCED (R93), in ascending order of their
numbers: DESIGN CHOICE, log entry 19. -/
def Ev.noteNewForced (e : Ev) (s : Side) (old new : Nat) : List (Fin 4) → Ev
  | [] => e
  | d :: ds =>
    let e1 :=
      if old ≤ d.val ∧ d.val < new ∧ ((e.doors.side s).doors.get d).state = .forced then e.noteForced s d
      else e
    e1.noteNewForced s old new ds

/-- The door block at an adoption that replaced the profile of `b` (R93); the DOOR page is published when any
record changes. The notices of the left side stand before those of the right: DESIGN CHOICE, log entry 19. -/
def Ev.adoptDoors (e : Ev) (b : Blocks) : Ev :=
  let f := b.profile
  let e1 := e.setDoors { e.doors with left := e.doors.left.adopt f.doorsLeft e.profile.doorsLeft
                                      right := e.doors.right.adopt f.doorsRight e.profile.doorsRight }
  let e2 := e1.noteNewForced .left f.doorsLeft e.profile.doorsLeft [0, 1, 2, 3]
  let e3 := e2.noteNewForced .right f.doorsRight e.profile.doorsRight [0, 1, 2, 3]
  let e4 := if f.doorsLeft = e.profile.doorsLeft ∧ f.doorsRight = e.profile.doorsRight then e3
    else e3.ask .door
  e4.doorsSettled b

/-! ## Rows -/

/-- CONTACT_MAKES (R90). -/
def execContactMakes (side : Side) (d : Fin 4) (s : State) : Host.Outcome State Fault Refusal :=
  .next (runEvent (fun e => e.contactMakes side d) s)

/-- CONTACT_OPENS (R90). -/
def execContactOpens (side : Side) (d : Fin 4) (s : State) : Host.Outcome State Fault Refusal :=
  .next (runEvent (fun e => e.contactOpens side d) s)

/-- CLOSE_LIMIT_REACHED (R91). -/
def execCloseLimitReached (side : Side) (d : Fin 4) (s : State) : Host.Outcome State Fault Refusal :=
  .next (runEvent (fun e => e.closeLimit side d) s)

end Sys2Proof.Machine
end

