-- ==== Sys2Proof/Machine/Motion.lean ====
section
/-! DEFINITION. Chapter 4: encoder decoding, windows, the standstill decision, adoption and the signal to the door block. -/

namespace Sys2Proof.Machine

/-! ## Decoding (R76 to R78) -/

/-- The count of a valid transition from the reference pair (R76): changing A toward B's opposite, or B
toward A, is +1. -/
def transitionCount (a b : Bool) : EncPhase → Int
  | .a => if a = b then 1 else -1
  | .b => if a = b then -1 else 1

/-- The reference pair after one phase has changed. -/
def Motion.follow (m : Motion) : EncPhase → Motion
  | .a => { m with refA := !m.refA }
  | .b => { m with refB := !m.refB }

/-- Add a valid transition to the window count, held within −32767..+32767 (R78). -/
def Motion.addCount (m : Motion) (c : Int) : Motion :=
  if m.count + c < -32767 ∨ 32767 < m.count + c then { m with saturated := true }
  else { m with count := m.count + c }

/-- A valid transition (R76); the decoder is held in UNFITTED. -/
def Motion.transition (m : Motion) (ph : EncPhase) : Motion :=
  match m.state with
  | .unfitted => m.follow ph
  | .unknown | .stopped | .moving | .faulted =>
    (m.addCount (transitionCount m.refA m.refB ph)).follow ph

/-- An illegal transition (R77). -/
def Motion.illegalTransition (m : Motion) : Motion :=
  let n := (m.follow .a).follow .b
  match m.state with
  | .unfitted => n
  | .unknown | .stopped | .moving => { n with illegal := satInc n.illegal }
  | .faulted => { n with illegal := satInc n.illegal, clean := 0 }

/-! ## Window end (R79 to R84) -/

/-- Steps 1 and 2 of R79. -/
def Motion.closeWindow (m : Motion) : Motion :=
  { m with lastDelta := m.count, lastIllegal := m.illegal, lastSaturated := m.saturated,
           count := 0, illegal := 0, saturated := false,
           odometer := m.odometer + BitVec.ofInt 32 m.count }

/-- A quiet window in UNKNOWN or MOVING (R80). -/
def Motion.quietWindow (m : Motion) : Motion :=
  if m.quiet < 2 then { m with quiet := m.quiet + 1 } else { m with quiet := 3, state := .stopped }

/-- The standstill decision on the window just closed (R80); STOPPED keeps its quiet count. -/
def Motion.decide (m : Motion) (z : Nat) : Motion :=
  if 4 < m.lastIllegal.toNat then { m with state := .faulted, quiet := 0, clean := 0 }
  else if z < m.lastDelta.natAbs then { m with state := .moving, quiet := 0 }
  else if m.state = .stopped then m
  else m.quietWindow

/-- The recovery of a faulted encoder (R81). -/
def Motion.recover (m : Motion) : Motion :=
  if m.lastIllegal = 0 then
    if m.clean < 9 then { m with clean := m.clean + 1 }
    else { m with clean := 10, state := .unknown, quiet := 0 }
  else { m with clean := 0 }

/-- Step 3 of R79. -/
def Motion.evaluate (m : Motion) (z : Nat) : Motion :=
  match m.state with
  | .unfitted => m
  | .unknown | .stopped | .moving => m.decide z
  | .faulted => m.recover

/-- The train direction of the window just closed (R84). -/
def trainDirection (m : Motion) (o : Option Port) : TrainDir :=
  if m.state = .unfitted then .notShown
  else
    match o with
    | none => .notShown
    | some p =>
      if m.lastDelta = 0 then .still
      else if (0 < m.lastDelta) = (p = .p1) then .forward
      else .reverse

/-- The record after steps 1 to 4 of R79. -/
def Motion.windowEnd (m : Motion) (z : Nat) (o : Option Port) : Motion :=
  let n := m.closeWindow.evaluate z
  { n with dir := trainDirection n o, windowDue := false }

/-- A tick of the window grid: the tenth makes a window's end due (R75, log entry 20). -/
def Motion.tick (m : Motion) : Motion :=
  { m with windowTicks := (m.windowTicks + 1) % 10, windowDue := (m.windowTicks + 1) % 10 == 0 }

/-- ENCODER_FAULT (R86) on an entry to FAULTED from state `old`. -/
def Ev.noteEncoder (e : Ev) (old : MotionState) : Ev :=
  if old ≠ .faulted ∧ e.motion.state = .faulted then
    e.notice .encoderFault (hiLo (motionStateNum old) (min 255 e.motion.lastIllegal.toNat))
      (BitVec.ofInt 16 e.motion.lastDelta)
  else e

/-- The signal to the door block that the state has left STOPPED (R83). -/
def Ev.motionSignal (e : Ev) (old : MotionState) : Ev :=
  if old = .stopped ∧ e.motion.state ≠ .stopped then e.withdraw else e

/-- The steps of a window end (R79). -/
def Ev.endWindow (e : Ev) : Ev :=
  let e1 := e.setMotion (e.motion.windowEnd e.profile.z e.toBlocks.orientation)
  ((e1.motionSignal e.motion.state).noteEncoder e.motion.state).ask .motion

/-- A window end: windows end on every tenth tick, and none is shortened (R75, log entry 20). -/
def Ev.windowEnd (e : Ev) : Ev := if e.motion.windowDue then e.endWindow else e

/-! ## Adoption (R82) -/

/-- The record at an adoption whose profile has or lacks a sensor, with Z changed or not (R82). -/
def Motion.adopt (m : Motion) (sensor zChanged : Bool) : Motion :=
  match m.state, sensor with
  | .unfitted, false => m
  | .unfitted, true =>
    { m with state := .unknown, quiet := 0, clean := 0, count := 0, illegal := 0, saturated := false }
  | .unknown, false | .stopped, false | .moving, false | .faulted, false =>
    { m with state := .unfitted, quiet := 0, clean := 0, count := 0, illegal := 0, saturated := false }
  | .stopped, true => if zChanged then { m with state := .unknown, quiet := 0 } else m
  | .unknown, true | .moving, true | .faulted, true => m

/-- The motion counter at an adoption that changed Z from `oldZ`: leaving STOPPED signals the door
block at once (R82, R83). -/
def Ev.adoptMotion (e : Ev) (oldZ : Nat) : Ev :=
  (e.setMotion (e.motion.adopt e.profile.sensor (decide (oldZ ≠ e.profile.z)))).motionSignal e.motion.state

/-- A sensor fitted to a car that had none withdraws every release that is on (R99). -/
def Ev.fittedWithdraw (e : Ev) (old : MotionState) : Ev :=
  if old = .unfitted ∧ e.motion.state = .unknown then e.withdraw else e

/-! ## Rows -/

/-- ENCODER_TRANSITION (R76). -/
def execEncoderTransition (ph : EncPhase) (s : State) : Host.Outcome State Fault Refusal :=
  .next (runEvent (fun e => e.setMotion (e.motion.transition ph)) s)

/-- ILLEGAL_TRANSITION (R77). -/
def execIllegalTransition (s : State) : Host.Outcome State Fault Refusal :=
  .next (runEvent (fun e => e.setMotion e.motion.illegalTransition) s)

/-- MOTION_WINDOW_END (R79). -/
def execMotionWindowEnd (s : State) : Host.Outcome State Fault Refusal :=
  .next (runEvent (fun e => e.windowEnd) s)

end Sys2Proof.Machine
end

