-- ==== Sys2Proof/Machine/HeaterOutput.lean ====
section
/-! DEFINITION. Chapter 9: the grant, the choice of the duty, the heater cycle; and the 10 ms tick. -/

namespace Sys2Proof.Machine

/-! ## The grant (R154, R155) -/

/-- The checks on a GRANT at a car whose live table has `n` cars (R154). -/
def GrantBody.fits (g : GrantBody) (n : Nat) : Bool :=
  g.n.toNat == n && g.grants.length == n && decide (g.flags.toNat ≤ 3)

/-- The record after a GRANT has been taken at position `pos` (R154). -/
def Heater.take (h : Heater) (g : GrantBody) (pos : Nat) : Heater :=
  { h with status := .fresh, g := g.grants.getD (pos - 1) 0, number := g.number, flags := g.flags, age := 0 }

/-- A GRANT handed to the heater output (R154). -/
def Ev.takeGrant (e : Ev) (payload : List Byte) : Ev :=
  match parseGrant payload with
  | some g =>
    if g.fits e.cars then (e.setHeater (e.heater.take g e.pos)).ask .heat
    else e.setHeater { e.heater with malformed := satInc e.heater.malformed }
  | none => e.setHeater { e.heater with malformed := satInc e.heater.malformed }

/-- The record after a drop of the grant (R155). -/
def Heater.dropGrant (h : Heater) : Heater :=
  { h with status := .absent, g := 0, number := 0, flags := 0, age := 0 }

/-- The grant is dropped at an install or a loss of the live table (R155). -/
def Ev.dropGrant (e : Ev) : Ev := (e.setHeater e.heater.dropGrant).ask .heat

/-- A FRESH grant whose age has reached 300 ticks lapses, with GRANT_TIMEOUT (R155, R162). -/
def Ev.grantExpiry (e : Ev) : Ev :=
  if e.heater.status = .fresh ∧ Config.grantTicks ≤ e.heater.age.toNat then
    ((e.setHeater { e.heater with status := .expired }).notice .grantTimeout
      (hiLo e.heater.g.toNat e.pos) e.heater.number).ask .heat
  else e

/-! ## The cycle (R156 to R159) -/

/-- The target duty with its basis (R156). -/
def Blocks.chooseDuty (b : Blocks) : Nat × DutyBasis :=
  if b.heater.latch then (0, .overtemp)
  else
    match b.heater.status with
    | .fresh => (min b.heater.g.toNat b.demand.d.toNat, .grant)
    | .absent | .expired => (min b.profile.s b.demand.d.toNat, .standby)

/-- The on-counts of the sub-cycles for a duty (R158). -/
def onCounts (m : HeaterMode) (duty : Nat) : List Nat :=
  (List.range (subCount m)).map fun i => duty / subCount m + if i < duty % subCount m then 1 else 0

/-- The stagger offset for position `q` of `n`, 0 without a table (R159). -/
def staggerOffset (m : HeaterMode) (q n : Nat) : Nat := if n = 0 then 0 else (q - 1) * subLen m / n

/-- The record after a cycle start (R157). -/
def Blocks.newCycle (b : Blocks) : Heater :=
  { b.heater with
    cycles := b.heater.cycles + 1
    cut := false
    cycleDue := false
    mode := b.profile.mode
    target := b.chooseDuty.1
    basis := b.chooseDuty.2
    onCounts := onCounts b.profile.mode b.chooseDuty.1
    offset := staggerOffset b.profile.mode b.pos b.cars
    offsetPos := b.pos
    offsetCars := b.cars }

/-- The steps of a cycle start (R157). -/
def Ev.startCycle (e : Ev) : Ev := (e.setHeater e.toBlocks.newCycle).ask .heat

/-- A cycle start (R157): a cycle begins at slot 0, once in each round of the slots (log entry 20). -/
def Ev.cycleStart (e : Ev) : Ev := if e.heater.cycleDue then e.startCycle else e

/-! ## The tick (R164) -/

/-- A supply channel at a tick: its age advances while it is measured (R132). -/
def SupplyChan.tick (c : SupplyChan) : SupplyChan :=
  if c.measured then { c with age := satInc c.age } else c

/-- The supply monitor at a tick. -/
def Monitor.tick (m : Monitor) : Monitor :=
  { m with chans := { x0 := m.chans.x0.tick, x1 := m.chans.x1.tick, x2 := m.chans.x2.tick
                      x3 := m.chans.x3.tick } }

/-- The heater output at a tick: grant age and cycle slot (R155, R153); at slot 0 a cycle start is due
(R157). -/
def Heater.tick (h : Heater) : Heater :=
  { h with age := satInc h.age, slot := h.slot + 1, cycleDue := h.slot + 1 == 0 }

/-- The time base at a tick: TICK, the window grid, the close timers, the grant age, the monitor ages and the
heater slot. What a tick may bring about besides (a limit reached, an expiry, a cycle or window that ends) is a
row of its own (log entry 20). -/
def Ev.timeBase (e : Ev) : Ev :=
  { e with tick := e.tick + 1, motion := e.motion.tick, doors := e.toBlocks.doorsTicked, monitor := e.monitor.tick
           heater := e.heater.tick }

/-- A tick; the doors whose limit the tick before it has reached enter LATE first (R91, log entry 20). -/
def Ev.tickAll (e : Ev) : Ev := e.closeLimits.timeBase

/-! ## Rows -/

/-- TICK (R164). -/
def execTick (s : State) : Host.Outcome State Fault Refusal := .next (runEvent (fun e => e.tickAll) s)

/-- GRANT_EXPIRY (R155). -/
def execGrantExpiry (s : State) : Host.Outcome State Fault Refusal :=
  .next (runEvent (fun e => e.grantExpiry) s)

/-- CYCLE_START (R157). -/
def execCycleStart (s : State) : Host.Outcome State Fault Refusal :=
  .next (runEvent (fun e => e.cycleStart) s)

end Sys2Proof.Machine
end

