-- ==== Sys2Proof/Machine/Summary.lean ====
section
/-! DEFINITION. Chapter 6: contribution, origination at the chain end, continuation, judgement at the lead, age. -/

namespace Sys2Proof.Machine

/-! ## Contribution (R113, R114) -/

/-- Enter position `q` at the front of the open-positions list; a fifth entry drops the last (R114). -/
def Total.enter (t : Total) (q : Nat) : Total :=
  if (q :: t.list).length = 5 then { t with list := (q :: t.list).take 4, more := true }
  else { t with list := q :: t.list }

/-- Doors of the car counted open. -/
def Blocks.openDoors (b : Blocks) : Nat := (b.carDoors.filter DoorRec.isOpen).length

/-- Doors of the car counted faulted. -/
def Blocks.faultedDoors (b : Blocks) : Nat := (b.carDoors.filter DoorRec.isFaulted).length

/-- The total after this car's contribution (R113). -/
def Blocks.contribute (b : Blocks) (t : Total) : Total :=
  let t1 := { t with
    covered := t.covered + 1
    openCount := t.openCount + b.openDoors
    faulted := t.faulted + b.faultedDoors
    refused := t.refused + flagNat b.doors.latch }
  if b.openDoors = 0 then t1 else t1.enter b.pos

/-- Clear the refusal latch after its contribution (R116); the DOOR page shows the change (R108). -/
def Ev.clearRefusal (e : Ev) : Ev :=
  (e.setDoors { e.doors with latch := false }).doorsSettled e.toBlocks

/-! ## Judgement (R117, R118) -/

/-- The result of a total at a lead of `n` cars (R118). -/
def judgedResult (n : Nat) (t : Total) : DoorResult :=
  if t.covered = n then (if t.openCount = 0 then .closed else .opened) else .unknown .short

/-- Judge a total that holds the lead's contribution (R118). The latch that was contributed clears (R116), and
the one publication of the judgement shows it (R121). -/
def Ev.judge (e : Ev) (t : Total) : Ev :=
  ((e.setSummary { e.summary with result := judgedResult e.cars t, total := t, judged := true,
                                  tick := e.tick, age := e.timerNow }).setDoors
    { e.doors with latch := false }).publishNow .door

/-- The last beacon number sent by the lead. -/
def lastBeacon (next : Word) : Nat := (next.toNat + 59999) % Config.beaconModulus

/-- The lag of beacon number `b` behind the last one sent (R117). -/
def beaconLag (next b : Word) : Nat :=
  (lastBeacon next + Config.beaconModulus - b.toNat) % Config.beaconModulus

/-- A list of positions is strictly ascending. -/
def ascending : List Nat → Bool
  | [] => true
  | [_] => true
  | a :: b :: rest => decide (a < b) && ascending (b :: rest)

/-- The content conditions at position `q` of `n` on a total from source position `src` that names `k`
list entries (R115). -/
def summaryOk (q n src : Nat) (t : Total) (k : Nat) : Bool :=
  src == q + 1 && decide (t.beacon.toNat < Config.beaconModulus) &&
    decide (1 ≤ t.covered) && decide (t.covered ≤ n - q) &&
    decide (t.faulted ≤ t.openCount) && decide (t.openCount ≤ 8 * t.covered) &&
    decide (t.refused ≤ t.covered) &&
    decide (k ≤ 4) && ascending t.list && (t.list.all fun p => decide (q + 1 ≤ p) && decide (p ≤ n)) &&
    decide (t.list.length ≤ t.openCount) && (!t.more || t.list.length == 4)

/-- Whether a summary of beacon number `b` is timely (R117). -/
def Blocks.timely (b : Blocks) (beacon : Word) : Bool :=
  let lag := beaconLag b.consist.beaconNo beacon
  decide (lag ≤ 2) &&
    (!b.summary.judged || decide (lag < beaconLag b.consist.beaconNo b.summary.total.beacon))

/-- The total of a SUMMARY that passes the content conditions (R115). -/
def Blocks.acceptedTotal (b : Blocks) (t : Telegram) : Option Total :=
  match parseSummary t.payload with
  | some (x, k) => if summaryOk b.pos b.cars t.hdr.srcPos.toNat x k then some x else none
  | none => none

/-- A SUMMARY at the lead (R117). -/
def Ev.judgeArrival (e : Ev) (t : Telegram) : Ev :=
  match e.toBlocks.acceptedTotal t with
  | none => e.setSummary { e.summary with malformed := satInc e.summary.malformed }
  | some x =>
    if e.toBlocks.timely x.beacon then e.judge (e.toBlocks.contribute x)
    else e.setSummary { e.summary with late := satInc e.summary.late }

/-! ## Sending on (R112, R115, R116) -/

/-- The SUMMARY telegram of a total (R110). -/
def summaryOutgoing (t : Total) : Outgoing :=
  { kind := .summary, cls := .safety, mode := .lead, payload := summaryPayload t }

/-- Originate a SUMMARY with this car's contribution added to `t`. A follower's latch clears once the
copy has been admitted; the lead judges its local copy at once. -/
def Ev.sendTotal (e : Ev) (t : Total) : Ev :=
  let total := e.toBlocks.contribute t
  let x := e.originate (summaryOutgoing total)
  match x.2.localTel with
  | some l => (x.1.judge total).offerLocal (some l)
  | none => if x.2.report.placed ≠ 0 then x.1.clearRefusal else x.1

/-- Whether the car is a chain end (R112). -/
def Blocks.chainEnd (b : Blocks) : Bool :=
  match b.consist.table with
  | none => false
  | some t => t.pos == t.entries.length || (decide (t.pos < t.entries.length) && !b.isUp t.away)

/-- A BEACON at the summary block (R112). -/
def Ev.summaryBeacon (e : Ev) (n : Word) : Ev :=
  if e.toBlocks.chainEnd then e.sendTotal { beacon := n } else e

/-- A SUMMARY handed to the summary block (R115, R117). -/
def Ev.takeSummary (e : Ev) (t : Telegram) : Ev :=
  if e.consist.role = .lead then e.judgeArrival t
  else
    match e.toBlocks.acceptedTotal t with
    | none => e
    | some x => e.sendTotal x

/-! ## Age and reset (R119, R120) -/

/-- The age timer reaches 250 ms (R119). -/
def Ev.ageExpiry (e : Ev) : Ev :=
  if e.summary.age.isRunning then
    (e.setSummary { e.summary with result := .unknown .stale, age := .stopped }).ask .door
  else e

/-- The record after an install at the lead or when the role leaves LEAD (R120, log entry 36). -/
def Judgement.cleared (j : Judgement) : Judgement :=
  { j with result := .unknown .noSummary, total := {}, judged := false, age := .stopped }

/-- The judgement record follows an event of the consist block (R120), with a publication of its own (R121). -/
def Ev.resetJudgement (e : Ev) : Ev := (e.setSummary e.summary.cleared).publishNow .door

/-- AGE_TIMER_EXPIRY (R119). -/
def execAgeTimerExpiry (s : State) : Host.Outcome State Fault Refusal :=
  .next (runEvent (fun e => e.ageExpiry) s)

end Sys2Proof.Machine
end

