-- ==== Sys2Proof/Machine/Allocation.lean ====
section
/-! DEFINITION. Chapter 8: demands, the demand table, the allocation period, the budget and the grant computation. -/

namespace Sys2Proof.Machine

/-! ## The demand table (R143) -/

/-- A fresh entry from the consist table. -/
def demandEntryOf (x : SweepEntry) : DemandEntry :=
  { r := x.r.toNat, f := x.f.toNat, s := x.s.toNat }

/-- The table is built at an install at the lead, and the grant set dropped (R143). -/
def Ev.buildTable (e : Ev) : Ev :=
  e.setAlloc { e.alloc with table := e.consist.table.map fun t => t.entries.map demandEntryOf
                            grants := none }

/-- The table and grant set are dropped when the car leaves LEAD (R143). -/
def Ev.dropTable (e : Ev) : Ev := e.setAlloc { e.alloc with table := none, grants := none }

/-! ## Demands (R140 to R142) -/

/-- This car's demand as it stands (R140). -/
def Blocks.demandBody (b : Blocks) : DemandBody :=
  { d := b.demand.d, draw := word b.draw, flags := b.demandFlags }

/-- An entry after a demand has been taken (R142). -/
def DemandEntry.take (x : DemandEntry) (b : DemandBody) : DemandEntry :=
  { x with demanded := true, d := b.d.toNat, draw := b.draw.toNat, flags := b.flags, refreshed := true }

/-- Replace item `i` of a list by `g` of it. -/
def listUpdate {α : Type} (g : α → α) : Nat → List α → List α
  | _, [] => []
  | 0, x :: xs => g x :: xs
  | i + 1, x :: xs => x :: listUpdate g i xs

/-- Update the entry at a position. -/
def Ev.updateEntry (e : Ev) (pos : Nat) (b : DemandBody) : Ev :=
  e.setAlloc { e.alloc with table := e.alloc.table.map (listUpdate (fun x => x.take b) (pos - 1)) }

/-- The checks on a DEMAND payload (R142). -/
def DemandBody.ok (b : DemandBody) : Bool := decide (b.draw.toNat ≤ 400) && decide (b.flags.toNat ≤ 3)

/-- A DEMAND handed to the allocation block (R142). -/
def Ev.takeDemand (e : Ev) (t : Telegram) : Ev :=
  match parseDemand t.payload with
  | some b =>
    if b.ok then e.updateEntry t.hdr.srcPos.toNat b
    else e.setAlloc { e.alloc with malformed := satInc e.alloc.malformed }
  | none => e.setAlloc { e.alloc with malformed := satInc e.alloc.malformed }

/-- A follower's DEMAND (R140). -/
def Ev.sendDemand (e : Ev) : Ev :=
  (e.originate { kind := .demand, cls := .power, mode := .lead
                 payload := demandPayload e.toBlocks.demandBody }).1

/-- A BEACON at a follower's demand computer (R140). -/
def Ev.demandBeacon (e : Ev) (n : Word) : Ev := if n.toNat % 10 = 0 then e.sendDemand else e

/-- The lead's own beacon at its demand computer (R141). -/
def Ev.ownDemand (e : Ev) (n : Word) : Ev :=
  if n.toNat % 10 = 0 then e.updateEntry 1 e.toBlocks.demandBody else e

/-! ## The computation (R145, R146, R148) -/

/-- Step 1 of R144 on one entry. -/
def DemandEntry.ageOne (x : DemandEntry) : DemandEntry :=
  if x.refreshed then { x with age := 0, refreshed := false } else { x with age := min 255 (x.age + 1) }

/-- The demand used for an entry (R145). -/
def DemandEntry.dUsed (x : DemandEntry) : Nat :=
  if x.demanded then (if x.age ≤ 3 then x.d else min x.s x.d) else x.s

/-- The floor used for an entry (R145). -/
def DemandEntry.floorUsed (x : DemandEntry) : Nat := min x.f x.dUsed

/-- Whether an entry is included. -/
def DemandEntry.included (x : DemandEntry) : Bool := decide (x.r ≠ 0)

/-- D of a table: Σ d r over the included entries (R148). -/
def demandSum (xs : List DemandEntry) : Nat := (xs.map fun x => x.dUsed * x.r).sum

/-- F of a table: Σ e r over the included entries (R148). -/
def floorSum (xs : List DemandEntry) : Nat := (xs.map fun x => x.floorUsed * x.r).sum

/-- The derated budget, the TLV use and DERATE_UNAVAILABLE (R146). -/
def derate (b vlow : Nat) (tlv : SupplyChan) : Nat × TlvUse × Bool :=
  if vlow = 0 then (b, .absent, false)
  else if !tlv.measured || decide (Config.tlvTicks < tlv.age.toNat) then (b, .unusable, true)
  else if vlow ≤ tlv.code.toNat then (b, .code tlv.code, false)
  else (b * tlv.code.toNat / vlow, .code tlv.code, false)

/-- The case of the computation (R148). -/
def grantCase (bs d f : Nat) : GrantCase :=
  if d ≤ bs then .fit else if bs ≤ f then .shortfall else .scaled

/-- The scale factor of case SCALED (R148). -/
def scaleFactor (bs d f : Nat) : Nat := (bs - f) * 65536 / (d - f)

/-- The grant of an included entry (R148). -/
def grantOf (c : GrantCase) (bs f k : Nat) (x : DemandEntry) : Nat :=
  match c with
  | .fit => x.dUsed
  | .shortfall => if f = 0 then 0 else x.floorUsed * bs / f
  | .scaled => x.floorUsed + (x.dUsed - x.floorUsed) * k / 65536

/-- The figures of one entry; an excluded entry is granted 0 (R145, R148). The d used and e recorded for it, which
R145's table leaves out, are 0: DESIGN CHOICE, log entry 42. -/
def grantLine (c : GrantCase) (bs f k : Nat) (x : DemandEntry) : GrantLine :=
  if x.included then
    { included := true, dUsed := x.dUsed, e := x.floorUsed, g := grantOf c bs f k x }
  else { included := false, dUsed := 0, e := 0, g := 0 }

/-- k of the computation, 0 outside case SCALED: DESIGN CHOICE, log entry 42. -/
def computedK (c : GrantCase) (bs d f : Nat) : Nat :=
  match c with
  | .scaled => scaleFactor bs d f
  | .fit | .shortfall => 0

/-- The grant lines of a table under budget `bs` (R148). -/
def computeGrants (bs : Nat) (xs : List DemandEntry) : List GrantLine :=
  let d := demandSum xs
  let f := floorSum xs
  let c := grantCase bs d f
  xs.map (grantLine c bs f (computedK c bs d f))

/-! ## The period (R144, R149, R150) -/

/-- Step 1 of R144: ageing and the period tick. -/
def Ev.ageTable (e : Ev) : Ev :=
  e.setAlloc { e.alloc with table := e.alloc.table.map (List.map DemandEntry.ageOne), periodTick := e.tick }

/-- The record of a computation (R149, steps 1 and 2). -/
def Alloc.compute (a : Alloc) (tlv : SupplyChan) : Alloc :=
  let xs := a.table.getD []
  let der := derate a.b a.vlow tlv
  let bs := 256 * der.1
  let d := demandSum xs
  let f := floorSum xs
  let c := grantCase bs d f
  { a with number := a.number + 1, lastPeriod := .computed c, bEff := der.1, tlv := der.2.1,
           derateUnavailable := der.2.2, bs := bs, dSum := d, fSum := f, k := computedK c bs d f,
           grants := some (computeGrants bs xs) }

/-- The flags of a GRANT (R150). -/
def Alloc.grantFlags (a : Alloc) : Byte :=
  byte (flagNat (a.lastPeriod = .computed .shortfall) + 2 * flagNat a.derateUnavailable)

/-- The GRANT telegram of a computation (R150). -/
def Alloc.outgoing (a : Alloc) : Outgoing :=
  let gs := a.grants.getD []
  { kind := .grant, cls := .power, mode := .all
    payload := grantPayload { number := a.number, bEff := word a.bEff, n := byte gs.length
                              flags := a.grantFlags, grants := gs.map fun l => byte l.g } }

/-- What became of the GRANT's port copy (R150). -/
def grantOutcome (r : Report) : GrantOutcome :=
  if r.placed ≠ 0 then .sent
  else if r.refused ≠ 0 then .refused
  else if r.down ≠ 0 then .linkDown
  else .localOnly

/-- The local copy of a GRANT: the lead's own heater output, then the delivery map. -/
def Ev.takeLocalGrant (e : Ev) (t : Option Telegram) : Ev :=
  match t with
  | some x => (e.takeGrant x.payload).offerLocal (some x)
  | none => e

/-- Compute and complete (R149). -/
def Ev.computePeriod (e : Ev) : Ev :=
  let e1 := e.setAlloc (e.alloc.compute e.monitor.chans.x0)
  let x := e1.originate e1.alloc.outgoing
  let e2 := x.1.setAlloc { x.1.alloc with outcome := some (grantOutcome x.2.report) }
  e2.takeLocalGrant x.2.localTel

/-- An allocation period (R144). -/
def Ev.allocPeriod (e : Ev) : Ev :=
  let e1 := e.ageTable
  if e1.alloc.budgetSet then e1.computePeriod.ask .heat
  else (e1.setAlloc { e1.alloc with lastPeriod := .skippedUnset }).ask .heat

/-- The lead's own beacon at its allocation block (R144). -/
def Ev.allocBeacon (e : Ev) (n : Word) : Ev := if n.toNat % 10 = 5 then e.allocPeriod else e

/-! ## The budget (R147) -/

/-- BUDGET (R147). -/
def Ev.budget (e : Ev) (b vlow : Word) : Ev × TakeResult :=
  if 8000 < b.toNat ∨ 4095 < vlow.toNat then (e, .no .badField)
  else
    (e.setAlloc { e.alloc with budgetSet := true, b := b.toNat, vlow := vlow.toNat }, .done b 0 0)

end Sys2Proof.Machine
end

