-- ==== Sys2Proof/Machine/Consist.lean ====
section
/-! DEFINITION. Chapter 2, the shared operations of the consist block: installs and losses of the table, beacons, attempts and ends of a sweep, breaks, joins and link reports. -/

namespace Sys2Proof.Machine

/-! ## Numbers and entries (R22, R29 to R31) -/

/-- The next generation or sweep number: 255 wraps to 1, so 0 is never formed (R22, R30). -/
def nextNumber (g : Byte) : Byte := if g = BitVec.allOnes 8 then 1 else g + 1

/-- Sweep number `b` is newer than `a`: 1..127 steps forward over 1..255 (R29). -/
def newerNumber (b a : Byte) : Bool :=
  let steps := (b.toNat + 255 - a.toNat) % 255
  decide (1 ≤ steps) && decide (steps ≤ 127)

/-- This car's sweep entry with its toward-lead end (R31). -/
def Blocks.ownEntry (b : Blocks) (toward : Port) : SweepEntry :=
  { id := b.profile.identity
    towardEnd := byte (portNum toward)
    doorsLeft := byte b.profile.doorsLeft
    doorsRight := byte b.profile.doorsRight
    flags := byte (flagNat b.profile.cab1 + 2 * flagNat b.profile.cab2 + 4 * flagNat b.profile.sensor +
      8 * flagNat (decide (b.profile.identity = 0)))
    r := byte b.profile.r
    f := byte b.profile.f
    s := byte b.profile.s }

/-- No non-zero identity appears twice (R21, R35). -/
def distinctIds : List SweepEntry → Bool
  | [] => true
  | x :: xs => (x.id == 0 || xs.all fun y => y.id != x.id) && distinctIds xs

/-! ## Notices (R49) -/

/-- CONSIST_INSTALLED for the live table. -/
def Ev.noteInstalled (e : Ev) : Ev :=
  match e.consist.table with
  | some t => e.notice .consistInstalled (hiLo t.gen.toNat t.entries.length) (hiLo t.pos (portNum t.toward))
  | none => e

/-- CONSIST_LOST for a dropped table. -/
def Ev.noteLost (e : Ev) (why : LossReason) (t : LiveTable) : Ev :=
  e.notice .consistLost (hiLo (lossReasonNum why) t.gen.toNat) (word t.pos)

/-! ## Install and loss -/

/-- Install a table at the lead: a new generation, and what follows an install in the other blocks
(R22, R120, R143, R155). The caller publishes the CONSIST page at its step. -/
def Ev.installLead (e : Ev) (cab : Port) (entries : List SweepEntry) : Ev :=
  let gen := nextNumber e.consist.lastGen
  let t : LiveTable :=
    { entries := entries, pos := 1, gen := gen, leadId := e.profile.identity, toward := cab }
  (((e.setConsist { e.consist with table := some t, lastGen := gen }).dropGrant).buildTable).resetJudgement

/-- The carry items cleared (R39). -/
def Consist.endCarry (c : Consist) : Consist :=
  { c with carry := none, pendingTable := none, carryT := .stopped,
           sweep := if c.sweep = .carrying then .idle else c.sweep }

/-- A carry ends without an install: the beacon watch of a FOLLOWER restarts (R37, R39, R42). -/
def Ev.endCarry (e : Ev) : Ev :=
  let c := e.consist.endCarry
  e.setConsist { c with watchT := if c.role = .follower then e.timerNow else c.watchT }

/-- A FOLLOWER loses its table: it becomes ALONE and ends any carry (R42 to R44, R40). The page shows the
record as the loss leaves it, before a sweep is taken up (R48). -/
def Ev.loseTable (e : Ev) (why : LossReason) (t : LiveTable) : Ev :=
  let c := e.consist.endCarry
  (((e.setConsist { c with table := none, role := .alone, watchT := .stopped }).dropGrant).publishNow
    .consist).noteLost why t

/-- The lead leaves its role: cab inactive, table dropped, timers stopped (R25, R40), with what follows
in the summary and allocation blocks (R120, R143, R152). The page shows the record as this leaves it, before
a sweep is taken up (R48). -/
def Ev.leaveLead (e : Ev) : Ev :=
  ((((e.setConsist
    { e.consist with cabEnd := none, table := none, role := .alone, sweep := .idle
                     returnT := .stopped, periodT := .stopped, settleT := .stopped }).dropGrant).dropTable).resetJudgement).publishNow
    .consist

/-! ## Sweep family telegrams (R29) -/

/-- Send SWEEP or RETURN. -/
def Ev.sendSweep (e : Ev) (p : Port) (k : Kind) (b : SweepBody) : Ev := e.sendFamily p k (sweepPayload b)

/-- Send SWEEP_FAIL. -/
def Ev.sendFail (e : Ev) (p : Port) (leadId : Ident) (number : Byte) (why : FailReason) (pos : Nat) : Ev :=
  e.sendFamily p .sweepFail
    (failPayload { leadId := leadId, number := number, reason := byte (failReasonNum why), pos := byte pos })

/-- Send DISSOLVE with the live generation. -/
def Ev.sendDissolve (e : Ev) (p : Port) : Ev := e.sendFamily p .dissolve [e.liveGen]

/-! ## Beacons (R41) -/

/-- The BEACON telegram with the lead's present number (R41). -/
def Blocks.beaconOutgoing (b : Blocks) : Outgoing :=
  { kind := .beacon, cls := .control, mode := .all
    payload := beaconPayload { number := b.consist.beaconNo, leadId := b.profile.identity
                               stationary := decide (b.motion.state = .stopped) } }

/-- The next beacon number: 59999 wraps to 0. -/
def nextBeacon (n : Word) : Word := word ((n.toNat + 1) % Config.beaconModulus)

/-- The lead's own beacon at its consumers (R41), in the order summary, demand, allocation, monitor: DESIGN CHOICE,
log entry 9. -/
def Ev.ownBeacon (e : Ev) (n : Word) : Ev :=
  (((e.summaryBeacon n).ownDemand n).allocBeacon n).monitorBeacon

/-- Send the next beacon (R41). Its number is the record's beacon number, which at a new lead is the last one it
accepted as a FOLLOWER: DESIGN CHOICE, log entry 40. -/
def Ev.sendBeacon (e : Ev) : Ev :=
  let n := e.consist.beaconNo
  let x := (e.setConsist { e.consist with
    beaconNo := nextBeacon n
    lastStationary := decide (e.motion.state = .stopped) }).originate e.toBlocks.beaconOutgoing
  (x.1.ownBeacon n).offerLocal x.2.localTel

/-- Beacons start: the first at once, and the period timer restarts (R41). -/
def Ev.startBeacons (e : Ev) : Ev :=
  (e.setConsist { e.consist with periodT := e.timerNow }).sendBeacon

/-! ## A sweep at the lead (R27, R30, R35, R38) -/

/-- The detail words of an ended sweep (R27, 11.3). -/
def outcomeDetails : SweepOutcome → Word × Word
  | .absent => (0, 0)
  | .formed g n => (hiLo 1 0, hiLo g.toNat n)
  | .failed why pos => (hiLo 2 (failReasonNum why), word pos)

/-- A sweep ends with an outcome: return timer stopped, state NONE, a waiting START_SWEEP completes. -/
def Ev.endSweep (e : Ev) (o : SweepOutcome) : Ev :=
  (e.setConsist { e.consist with returnT := .stopped, sweep := .idle, outcome := o, sweepSlot := none }).complete
    e.consist.sweepSlot (outcomeDetails o).1 (outcomeDetails o).2 0

/-- The sweep forms the train of the lead alone (R30). -/
def Ev.formAlone (e : Ev) (cab : Port) : Ev :=
  let e1 := e.installLead cab [e.toBlocks.ownEntry cab]
  (((e1.endSweep (.formed e1.liveGen 1)).noteInstalled).publishNow .consist).startBeacons

/-- Start attempt `k` of a sweep at a lead whose cab is at `cab` (R30). -/
def Ev.beginAttempt (e : Ev) (cab : Port) (k : Nat) : Ev :=
  let n := nextNumber e.consist.sweepCounter
  let e1 := e.setConsist { e.consist with sweepCounter := n, settleT := .stopped }
  if e.isUp (portOther cab) then
    (e1.setConsist { e1.consist with attemptLead := e.profile.identity, sweep := .awaitReturn k
                                     returnT := e.timerNow, periodT := .stopped }).sendSweep
      (portOther cab) .sweep
      { leadId := e.profile.identity, number := n, entries := [e.toBlocks.ownEntry cab] }
  else e1.formAlone cab

/-- The sweep fails at the lead (R38). -/
def Ev.failSweep (e : Ev) (cab : Port) (why : FailReason) (pos : Nat) : Ev :=
  let k := attemptNum e.consist.sweep
  let e1 := (e.sendDissolve (portOther cab)).installLead cab [e.toBlocks.ownEntry cab]
  ((((e1.endSweep (.failed why pos)).notice .sweepFailed (hiLo (failReasonNum why) k)
    (word pos)).noteInstalled).publishNow .consist).startBeacons

/-- An attempt ends by timeout or loss of a link: the next one starts, or the sweep fails (R38). -/
def Ev.retryOrFail (e : Ev) (cab : Port) (k : Nat) (why : FailReason) (pos : Nat) : Ev :=
  if k < 3 then e.beginAttempt cab (k + 1) else e.failSweep cab why pos

/-- BREAK, JOIN or the lead's own report: NONE goes to RESWEEP_WAIT, else it is absorbed (R47). -/
def Ev.askResweep (e : Ev) : Ev :=
  match e.consist.sweep with
  | .idle => e.setConsist { e.consist with sweep := .resweepWait, settleT := e.timerNow }
  | .carrying | .awaitReturn _ | .resweepWait => e

/-! ## Breaks and joins (R45, R46) -/

/-- Send BREAK toward the lead (R45). -/
def Ev.sendBreak (e : Ev) : Ev :=
  (e.originate { kind := .brk, cls := .control, mode := .lead, payload := [byte e.pos] }).1

/-- JOIN reasons (11.6). -/
inductive JoinReason where
  | newNeighbour
  | profileChanged
  deriving DecidableEq, Repr

def joinReasonNum : JoinReason → Nat
  | .newNeighbour => 1
  | .profileChanged => 2

/-- JOIN (R46): the lead acts on its own at once, a follower sends it, an ALONE car does nothing. -/
def Ev.join (e : Ev) (why : JoinReason) : Ev :=
  match e.consist.role with
  | .alone => e
  | .lead => e.askResweep
  | .follower =>
    (e.originate { kind := .join, cls := .control, mode := .lead
                   payload := [byte e.pos, byte (joinReasonNum why)] }).1

/-! ## Reports of the ports (R13) -/

/-- A carrying car whose port `p` has left UP (R37). -/
def Ev.carryPortLost (e : Ev) (p : Port) : Ev :=
  match e.consist.carry with
  | none => e
  | some c =>
    if c.port = p then e.endCarry
    else
      match e.consist.pendingTable with
      | some _ => e
      | none => (e.sendFail c.port c.leadId c.number .linkLost c.pos).endCarry

/-- A positioned car whose port `p` has left UP (R43, R45, R47, R38). -/
def Ev.tablePortLost (e : Ev) (p : Port) : Ev :=
  match e.consist.role, e.consist.table with
  | .follower, some t =>
    if p = t.toward then (e.sendDissolve t.away).loseTable .link t
    else if t.pos < t.entries.length then e.sendBreak
    else e
  | .lead, some t =>
    if p = t.toward then e
    else
      match e.consist.sweep with
      | .awaitReturn k => e.retryOrFail t.toward k .linkLost 1
      | .idle | .resweepWait | .carrying => if 1 < t.entries.length then e.askResweep else e
  | .alone, _ | .follower, none | .lead, none => e

/-- The consist block's reaction to a port that has left UP. Where one lost port calls for R37's SWEEP_FAIL and for
R43's DISSOLVE or R45's BREAK, the SWEEP_FAIL stands first: DESIGN CHOICE, log entry 9. -/
def Ev.consistPortLost (e : Ev) (p : Port) : Ev := (e.carryPortLost p).tablePortLost p

/-- The consist block's reaction to a port that has entered UP (R26, R46). -/
def Ev.consistPortUp (e : Ev) (p : Port) : Ev :=
  match e.consist.table with
  | none => e
  | some t =>
    if p = t.away then e.join .newNeighbour
    else if e.consist.role = .lead then
      e.notice .cabEndCoupled (hiHalf (e.port p).nbrId) (loHalf (e.port p).nbrId)
    else e

end Sys2Proof.Machine
end

