-- ==== Sys2Proof/Machine/Discovery.lean ====
section
/-! DEFINITION. Chapter 2, the events of the consist block: SET_CAB, START_SWEEP, the sweep family, the lead contest, BEACON, BREAK, JOIN and the timers. -/

namespace Sys2Proof.Machine

/-! ## Commands (R24, R25, R27, R28) -/

/-- Whether the live profile has a cab at an end. -/
def Profile.cabAt (f : Profile) : Port → Bool
  | .p1 => f.cab1
  | .p2 => f.cab2

/-- Activation of the cab at an end (R24): the install of step 3 publishes the CONSIST page, step 4 follows. The
beacon number stands as it is, so a car that was a FOLLOWER goes on from the last number it accepted: DESIGN CHOICE,
log entry 40. -/
def Ev.activate (e : Ev) (p : Port) : Ev :=
  let c := e.consist.endCarry
  let e1 := e.setConsist { c with cabEnd := some p, role := .lead, watchT := .stopped }
  let e2 := ((e1.installLead p [e.toBlocks.ownEntry p]).noteInstalled).publishNow .consist
  if e.isUp (portOther p) then e2.beginAttempt p 1 else e2.startBeacons

/-- SET_CAB(1) or SET_CAB(2): the conditions in their order (R24). -/
def Ev.activateCab (e : Ev) (p : Port) : Ev × TakeResult :=
  if e.consist.cabEnd = some p then (e, .ok)
  else if e.profile.identity = 0 then (e, .no .unprofiled)
  else if e.profile.cabAt p = false then (e, .no .cabNotFitted)
  else if (e.port p).state = .up ∨ (e.port p).state = .settling then (e, .no .cabEndCoupled)
  else if e.consist.cabEnd ≠ none then (e, .no .cabActive)
  else (e.activate p, .done ((nextNumber e.consist.lastGen).setWidth 16) 0 0)

/-- A sweep in progress at the lead ends without an install (R25, R40). -/
def Ev.stopSweep (e : Ev) (why : FailReason) : Ev :=
  match e.consist.sweep with
  | .awaitReturn _ => e.endSweep (.failed why 1)
  | .idle | .carrying | .resweepWait => e

/-- SET_CAB(NONE) (R25). -/
def Ev.deactivate (e : Ev) : Ev :=
  match e.consist.cabEnd, e.consist.table with
  | some c, some t => ((((e.sendDissolve (portOther c)).stopSweep .deactivated).leaveLead).noteLost .deactivated t)
  | _, _ => e

/-- SET_CAB (R24, R25). -/
def Ev.setCab (e : Ev) (cabEnd : Byte) : Ev × TakeResult :=
  if cabEnd = 0 then (e.deactivate, .ok)
  else
    match portOf cabEnd with
    | some p => e.activateCab p
    | none => (e, .no .badField)

/-- START_SWEEP taken from slot `n` (R27). A sweep that ends at once completes the slot in the same
event. -/
def Ev.startSweep (e : Ev) (n : Fin 16) : Ev × TakeResult :=
  match e.consist.role, e.consist.table with
  | .lead, some t =>
    match e.consist.sweep with
    | .awaitReturn _ => (e, .no .sweepInProgress)
    | .idle | .carrying | .resweepWait =>
      ((e.setConsist { e.consist with sweepSlot := some n }).beginAttempt t.toward 1, .taken .sweep 0)
  | _, _ => (e, .no .notLead)

/-- The abandon of a START_SWEEP in AWAIT_RETURN (R28): the kept table's generation and N are the second
detail word. The page of the sweep's end stands before the beacons: DEDUCED, log entry 7. -/
def Ev.abandonSweep (e : Ev) : Option (Ev × Word) :=
  match e.consist.sweep with
  | .awaitReturn _ =>
    some (((e.setConsist { e.consist with returnT := .stopped, sweep := .idle, sweepSlot := none }).publishNow .consist).startBeacons,
      hiLo e.liveGen.toNat e.cars)
  | .idle | .carrying | .resweepWait => none

/-! ## The lead contest (R40) -/

/-- What the contest decides: the SWEEP passes or is discarded, and whether the car first abandons its
lead. -/
inductive Contest where
  | passes
  | abandons
  | discards
  deriving DecidableEq, Repr

/-- The comparison of the arriving lead identity with the one the car is bound to (R40). -/
def contestOf (c : Consist) (own : Ident) (y : Ident) (number : Byte) : Contest :=
  if y = 0 then .discards
  else
    match c.carry with
    | some k =>
      if y < k.leadId then .abandons
      else if y = k.leadId then (if newerNumber number k.number then .passes else .discards)
      else .discards
    | none =>
      match c.role, c.table with
      | .lead, _ => if y < own then .abandons else .discards
      | .follower, some t =>
        if y < t.leadId then .abandons else if y = t.leadId then .passes else .discards
      | .follower, none | .alone, _ => .passes

/-- The car abandons the lead it is bound to (R40). -/
def Ev.abandonLead (e : Ev) (y : Ident) : Ev :=
  match e.consist.role, e.consist.table with
  | .lead, _ => ((e.stopSweep .contestLost).leaveLead).notice .leadContestLost (hiHalf y) (loHalf y)
  | .follower, some t => e.loseTable .contest t
  | .follower, none | .alone, _ => e.endCarry

/-! ## SWEEP (R32, R33) -/

/-- The away end of an entry's car: 1 when its toward-lead end is 2, and 2 when it is 1. -/
def awayEnd (x : SweepEntry) : Byte := if x.towardEnd = 2 then 1 else 2

/-- The validation of an arriving list of `m` entries on a port (R32): the failure, if any, with the
position reached. -/
def sweepFault (own : Ident) (lp : LinkPort) (xs : List SweepEntry) : Option (FailReason × Nat) :=
  if 32 ≤ xs.length then some (.tooLong, 33)
  else
    match xs.getLast? with
    | none => some (.inconsistent, 1)
    | some x =>
      if x.id ≠ lp.nbrId ∨ lp.nbrEnd ≠ awayEnd x ∨ (own ≠ 0 ∧ xs.any fun y => y.id == own) then
        some (.inconsistent, xs.length + 1)
      else none

/-- Take up a sweep that passed validation and send it onward (R32, R33). -/
def Ev.takeUpSweep (e : Ev) (p : Port) (b : SweepBody) : Ev :=
  let list := b.entries ++ [e.toBlocks.ownEntry p]
  let out : SweepBody := { b with entries := list }
  let c := { e.consist with
    sweep := .carrying
    carry := some { leadId := b.leadId, number := b.number, port := p, pos := b.entries.length + 1 }
    pendingTable := none, carryT := e.timerNow, watchT := .stopped }
  if e.isUp (portOther p) then (e.setConsist c).sendSweep (portOther p) .sweep out
  else (e.setConsist { c with pendingTable := some list }).sendSweep p .ret out

/-- Validate a SWEEP that passed the contest and take it up, or answer SWEEP_FAIL (R32). -/
def Ev.validateSweep (e : Ev) (p : Port) (b : SweepBody) : Ev :=
  match sweepFault e.profile.identity (e.port p) b.entries with
  | some (why, pos) => e.sendFail p b.leadId b.number why pos
  | none => e.takeUpSweep p b

/-- A SWEEP at the consist block (R40, R32). -/
def Ev.takeSweep (e : Ev) (p : Port) (b : SweepBody) : Ev :=
  match contestOf e.consist e.profile.identity b.leadId b.number with
  | .discards => e
  | .passes => e.validateSweep p b
  | .abandons => (e.abandonLead b.leadId).validateSweep p b

/-! ## RETURN (R34, R35) -/

/-- The check of R35 on a list: `own` is the lead's identity, `cab` its active cab end, `lp` the
train-ward port. -/
def returnOk (own : Ident) (cab : Port) (lp : LinkPort) (xs : List SweepEntry) : Bool :=
  match xs with
  | x1 :: x2 :: _ =>
    decide (xs.length ≤ 32) && x1.id == own && x1.towardEnd == byte (portNum cab) &&
      x2.id == lp.nbrId && lp.nbrEnd == x2.towardEnd && distinctIds xs
  | _ => false

/-- The lead completes the sweep (R35). -/
def Ev.completeSweep (e : Ev) (cab : Port) (b : SweepBody) : Ev :=
  let e1 := e.installLead cab b.entries
  let e2 := e1.sendFamily (portOther cab) .confirm
    (confirmPayload { leadId := b.leadId, number := b.number, gen := e1.liveGen
                      n := byte b.entries.length })
  (((e2.endSweep (.formed e1.liveGen b.entries.length)).publishNow .consist).noteInstalled).startBeacons

/-- Whether a sweep id is that of the lead's current attempt (log entry 18). -/
def Consist.isAttempt (c : Consist) (leadId : Ident) (number : Byte) : Bool :=
  c.attemptLead == leadId && c.sweepCounter == number

/-- A RETURN at the lead (R35). -/
def Ev.leadReturn (e : Ev) (cab : Port) (p : Port) (b : SweepBody) : Ev :=
  match e.consist.sweep with
  | .awaitReturn _ =>
    if p = portOther cab ∧ e.consist.isAttempt b.leadId b.number then
      if returnOk e.profile.identity cab (e.port p) b.entries then e.completeSweep cab b
      else e.failSweep cab .inconsistent 1
    else e
  | .idle | .carrying | .resweepWait => e

/-- Whether a telegram reached a carrying car on its other port with its carried sweep id. -/
def Carry.fromBeyond (c : Carry) (p : Port) (leadId : Ident) (number : Byte) : Bool :=
  decide (p = portOther c.port) && c.leadId == leadId && c.number == number

/-- A RETURN at a carrying car (R34). -/
def Ev.carryReturn (e : Ev) (c : Carry) (p : Port) (b : SweepBody) : Ev :=
  if c.fromBeyond p b.leadId b.number then
    match b.entries[c.pos - 1]? with
    | some x =>
      if x.id = e.profile.identity then
        (e.setConsist { e.consist with pendingTable := some b.entries }).sendSweep c.port .ret b
      else e.sendFail c.port c.leadId c.number .inconsistent c.pos
    | none => e.sendFail c.port c.leadId c.number .inconsistent c.pos
  else e

/-- A RETURN at the consist block. -/
def Ev.takeReturn (e : Ev) (p : Port) (b : SweepBody) : Ev :=
  match e.consist.role, e.consist.table, e.consist.carry with
  | .lead, some t, _ => e.leadReturn t.toward p b
  | _, _, some c => e.carryReturn c p b
  | _, _, none => e

/-! ## SWEEP_FAIL (R37, R38) -/

/-- A SWEEP_FAIL at the lead (R38); an unknown reason is discarded (log entry 17). -/
def Ev.leadFail (e : Ev) (cab : Port) (p : Port) (b : FailBody) : Ev :=
  match e.consist.sweep with
  | .awaitReturn k =>
    if p = portOther cab ∧ e.consist.isAttempt b.leadId b.number then
      match b.reason.toNat with
      | 1 => e.failSweep cab .tooLong b.pos.toNat
      | 2 => e.failSweep cab .inconsistent b.pos.toNat
      | 3 => e.retryOrFail cab k .linkLost b.pos.toNat
      | _ => e
    else e
  | .idle | .carrying | .resweepWait => e

/-- A SWEEP_FAIL at the consist block (R37, R38). -/
def Ev.takeSweepFail (e : Ev) (p : Port) (b : FailBody) : Ev :=
  match e.consist.role, e.consist.table, e.consist.carry with
  | .lead, some t, _ => e.leadFail t.toward p b
  | _, _, some c =>
    if c.fromBeyond p b.leadId b.number then
      (e.sendFamily c.port .sweepFail (failPayload b)).endCarry
    else e
  | _, _, none => e

/-! ## CONFIRM (R36) -/

/-- The install checks of a follower (R45, R46). -/
def Ev.installChecks (e : Ev) (t : LiveTable) : Ev :=
  if t.pos < t.entries.length then
    if e.isUp t.away then e else e.sendBreak
  else if e.isUp t.away then e.join .newNeighbour
  else e

/-- A follower installs its pending table (R36). -/
def Ev.installFollower (e : Ev) (c : Carry) (xs : List SweepEntry) (b : ConfirmBody) : Ev :=
  let t : LiveTable :=
    { entries := xs, pos := c.pos, gen := b.gen
      leadId := (match xs with | x :: _ => x.id | [] => 0), toward := c.port }
  let k := e.consist.endCarry
  let e1 := (e.setConsist { k with table := some t, lastGen := b.gen, role := .follower
                                   watchT := e.timerNow }).dropGrant
  let e2 := if t.pos < t.entries.length then e1.sendFamily t.away .confirm (confirmPayload b) else e1
  ((e2.publishNow .consist).noteInstalled).installChecks t

/-- A CONFIRM at the consist block (R36). -/
def Ev.takeConfirm (e : Ev) (p : Port) (b : ConfirmBody) : Ev :=
  match e.consist.carry, e.consist.pendingTable with
  | some c, some xs =>
    if p = c.port ∧ c.leadId = b.leadId ∧ c.number = b.number ∧ b.n.toNat = xs.length then
      e.installFollower c xs b
    else e
  | _, _ => e

/-! ## DISSOLVE (R44), BEACON (R42), BREAK and JOIN (R47) -/

/-- A DISSOLVE at the consist block (R44). -/
def Ev.takeDissolve (e : Ev) (p : Port) (gen : Byte) : Ev :=
  match e.consist.role, e.consist.table with
  | .follower, some t =>
    if p = t.toward ∧ gen = t.gen then
      (if t.pos < t.entries.length then e.sendDissolve t.away else e).loseTable .dissolved t
    else e
  | _, _ => e

/-- A BEACON accepted by the consist block of a FOLLOWER (R42). Its number is recorded as it came, also above
59999, where the spec sets no check: DESIGN CHOICE, log entry 38. -/
def Ev.acceptBeacon (e : Ev) (b : BeaconBody) : Ev :=
  let c := e.consist
  match c.role, c.table with
  | .follower, some t =>
    e.setConsist { c with
      beaconNo := b.number, lastStationary := b.stationary, table := some { t with leadId := b.leadId }
      watchT := if c.sweep = .carrying then c.watchT else e.timerNow }
  | _, _ => e

/-- A BEACON at its consumers (R57), in the order consist, summary, demand, monitor: DESIGN CHOICE, log entry 9. A
lead keeps its own record and sends no DEMAND (R42, R140). -/
def Ev.takeBeacon (e : Ev) (b : BeaconBody) : Ev :=
  let e1 := (e.acceptBeacon b).summaryBeacon b.number
  (if e.consist.role = .lead then e1 else e1.demandBeacon b.number).monitorBeacon

/-- BREAK or JOIN at the consist block of the lead (R47). The reason of a JOIN is not read, so one that is no code of
11.6 (R183) acts like the two that are: DESIGN CHOICE, log entry 17. -/
def Ev.takeReport (e : Ev) : Ev := if e.consist.role = .lead then e.askResweep else e

/-! ## Timers (R38, R39, R41, R42, R47); an expiry of a stopped timer is none -/

/-- The return timer expires (R38). -/
def Ev.returnExpiry (e : Ev) : Ev :=
  match e.consist.returnT, e.consist.sweep, e.consist.table with
  | .running _, .awaitReturn k, some t => e.retryOrFail t.toward k .noReturn 1
  | _, _, _ => e

/-- The carry timer expires (R39). -/
def Ev.carryExpiry (e : Ev) : Ev := if e.consist.carryT.isRunning then e.endCarry else e

/-- The beacon period timer expires (R41). -/
def Ev.beaconExpiry (e : Ev) : Ev := if e.consist.periodT.isRunning then e.startBeacons else e

/-- The beacon watch expires (R42). -/
def Ev.watchExpiry (e : Ev) : Ev :=
  match e.consist.watchT, e.consist.role, e.consist.table with
  | .running _, .follower, some t => e.loseTable .beaconTimeout t
  | _, _, _ => e

/-- The settle timer expires: the sweep state leaves RESWEEP_WAIT and a sweep starts (R47). -/
def Ev.settleExpiry (e : Ev) : Ev :=
  match e.consist.settleT, e.consist.sweep, e.consist.table with
  | .running _, .resweepWait, some t => e.beginAttempt t.toward 1
  | _, _, _ => e

/-! ## Rows -/

/-- RETURN_TIMER_EXPIRY (R38). -/
def execReturnTimerExpiry (s : State) : Host.Outcome State Fault Refusal :=
  .next (runEvent (fun e => e.returnExpiry) s)

/-- CARRY_TIMER_EXPIRY (R39). -/
def execCarryTimerExpiry (s : State) : Host.Outcome State Fault Refusal :=
  .next (runEvent (fun e => e.carryExpiry) s)

/-- BEACON_PERIOD_EXPIRY (R41). -/
def execBeaconPeriodExpiry (s : State) : Host.Outcome State Fault Refusal :=
  .next (runEvent (fun e => e.beaconExpiry) s)

/-- BEACON_WATCH_EXPIRY (R42). -/
def execBeaconWatchExpiry (s : State) : Host.Outcome State Fault Refusal :=
  .next (runEvent (fun e => e.watchExpiry) s)

/-- SETTLE_TIMER_EXPIRY (R47). -/
def execSettleTimerExpiry (s : State) : Host.Outcome State Fault Refusal :=
  .next (runEvent (fun e => e.settleExpiry) s)

end Sys2Proof.Machine
end

