-- ==== Sys2Proof/Machine/Ports.lean ====
section
/-! DEFINITION. Chapter 1: marks, the transmitter, link states, quality windows, RESTORE_LINK. -/

namespace Sys2Proof.Machine

/-! ## Link changes (R13, R15, R16, R18) -/

/-- A change of a port's link state to that of `lp`: LINK_CHANGE and the LINK page (R16, R18). -/
def Ev.changeLink (e : Ev) (p : Port) (lp : LinkPort) (cause : LinkCause) : Ev :=
  ((e.setPort p lp).notice .linkChange (hiLo (portNum p) (linkStateNum lp.state))
    (hiLo (linkStateNum (e.port p).state) (linkCauseNum cause))).ask .link

/-- A port leaves UP for DEAD or FAULTED: neighbour cleared, silence timer stopped, then the relay
disposes of its traffic (R15) and then the consist block is told (R13). That R15's disposal and its notices
stand before what the consist block does is the model's order: DESIGN CHOICE, log entry 9. -/
def Ev.leaveUp (e : Ev) (p : Port) (st : LinkState) (cause : LinkCause) : Ev :=
  ((e.changeLink p { e.port p with state := st, nbrId := 0, nbrEnd := 0, silence := .stopped }
    cause).disposeTraffic p).consistPortLost p

/-- A port enters SETTLING from FAULTED (R10). -/
def Ev.resettle (e : Ev) (p : Port) (cause : LinkCause) : Ev :=
  e.changeLink p { e.port p with state := .settling, nbrId := 0, nbrEnd := 0, settle := 0
                                 silence := e.timerNow, cleanRun := 0 } cause

/-! ## Errors (R2, R8, R11) -/

/-- One more error in the quality window. -/
def LinkPort.addError (lp : LinkPort) : LinkPort := { lp with winErr := satInc lp.winErr }

/-- A framing error or frame-check failure (R2): in SETTLING it also breaks the run of marks (R8). -/
def LinkPort.frameError (lp : LinkPort) : LinkPort :=
  if lp.state = .settling then { lp.addError with settle := 0 } else lp.addError

/-- Count a failed frame at a port. -/
def Ev.frameError (e : Ev) (p : Port) : Ev := e.setPort p (e.port p).frameError

/-! ## Marks received (R3, R7 to R10) -/

/-- The content checks of a mark (R3): end 1 or 2, and no echo. -/
def Blocks.markValid (b : Blocks) (p : Port) (ident : Ident) (carEnd : Byte) : Bool :=
  (carEnd == 1 || carEnd == 2) &&
    !(ident == b.profile.identity && b.profile.identity != 0 && carEnd.toNat == portNum p)

/-- A port with a mark as its new candidate: settle count 1, silence timer restarted (R7, R8). -/
def LinkPort.candidate (lp : LinkPort) (ident : Ident) (carEnd : Byte) (now : Timer) : LinkPort :=
  { lp with state := .settling, nbrId := ident, nbrEnd := carEnd, settle := 1, silence := now }

/-- A valid mark in SETTLING (R8). -/
def Ev.settlingMark (e : Ev) (p : Port) (ident : Ident) (carEnd : Byte) : Ev :=
  let lp := e.port p
  if lp.settle = 0 ∨ lp.nbrId ≠ ident ∨ lp.nbrEnd ≠ carEnd then
    e.setPort p (lp.candidate ident carEnd e.timerNow)
  else if lp.settle < 19 then
    e.setPort p { lp with settle := lp.settle + 1, silence := e.timerNow }
  else
    (e.changeLink p { lp with state := .up, settle := 20, silence := e.timerNow, badRun := 0 }
      .settled).consistPortUp p

/-- A valid mark in UP (R9): the same neighbour, or an uncoupling and a new coupling in one. -/
def Ev.upMark (e : Ev) (p : Port) (ident : Ident) (carEnd : Byte) : Ev :=
  let lp := e.port p
  if lp.nbrId = ident ∧ lp.nbrEnd = carEnd then e.setPort p { lp with silence := e.timerNow }
  else
    let e1 := e.leaveUp p .dead .newNeighbour
    e1.changeLink p ((e1.port p).candidate ident carEnd e1.timerNow) .newNeighbour

/-- A mark whose frame check is correct (R3, R7 to R10). -/
def Ev.markReceived (e : Ev) (p : Port) (ident : Ident) (carEnd : Byte) : Ev :=
  if e.toBlocks.markValid p ident carEnd then
    match (e.port p).state with
    | .dead => e.changeLink p ((e.port p).candidate ident carEnd e.timerNow) .firstMark
    | .settling => e.settlingMark p ident carEnd
    | .up => e.upMark p ident carEnd
    | .faulted => e
  else e.frameError p

/-- The silence timer reaches 35 ms (R8, R9). -/
def Ev.silenceExpiry (e : Ev) (p : Port) : Ev :=
  let lp := e.port p
  match lp.silence, lp.state with
  | .running _, .settling =>
    e.changeLink p { lp with state := .dead, nbrId := 0, nbrEnd := 0, settle := 0, silence := .stopped } .silence
  | .running _, .up => e.leaveUp p .dead .silence
  | .running _, .dead | .running _, .faulted | .stopped, _ => e

/-! ## Quality windows (R11, R12) -/

/-- The grading of the window just closed, with `errors` errors against Q (R12). -/
def Ev.grade (e : Ev) (p : Port) (errors : Word) : Ev :=
  let lp := e.port p
  match lp.state with
  | .dead | .settling => e
  | .up =>
    if e.profile.q < errors.toNat then
      if lp.badRun < 2 then e.setPort p { lp with badRun := lp.badRun + 1 }
      else (e.setPort p { lp with badRun := 3, cleanRun := 0 }).leaveUp p .faulted .quality
    else e.setPort p { lp with badRun := 0 }
  | .faulted =>
    if errors = 0 then
      if lp.cleanRun < 9 then e.setPort p { lp with cleanRun := lp.cleanRun + 1 }
      else e.resettle p .clean
    else e.setPort p { lp with cleanRun := 0 }

/-- A window end at one port (R11). -/
def Ev.portWindowEnd (e : Ev) (p : Port) : Ev :=
  (e.setPort p { e.port p with lastErr := (e.port p).winErr, winErr := 0 }).grade p (e.port p).winErr

/-- The windows of both ports end at the same moments (R6); one LINK publication covers both (R18). -/
def Ev.windowsEnd (e : Ev) : Ev := ((e.portWindowEnd .p1).portWindowEnd .p2).ask .link

/-! ## The transmitter (R4, R5, R67) -/

/-- Start a mark with the live identity (R4). -/
def Ev.startMark (e : Ev) (p : Port) : Ev :=
  e.setPort p { e.port p with tx := .mark e.profile.identity, markDue := false }

/-- A mark falls due (R4). -/
def Ev.markDue (e : Ev) (p : Port) : Ev :=
  if (e.port p).tx = .idle then e.startMark p else e.setPort p { e.port p with markDue := true }

/-- The transmitter is idle: a due mark goes first, else the scheduler is asked (R5). -/
def Ev.nextFrame (e : Ev) (p : Port) : Ev := if (e.port p).markDue then e.startMark p else e.kick p

/-- A frame ends (R5, R67). -/
def Ev.frameEnd (e : Ev) (p : Port) : Ev :=
  match (e.port p).tx with
  | .idle => e
  | .telegram q =>
    ((e.setPort p { e.port p with tx := .idle }).settleCopy q.origin true).nextFrame p
  | .mark _ | .abort => (e.setPort p { e.port p with tx := .idle }).nextFrame p

/-! ## RESTORE_LINK (R17) -/

/-- RESTORE_LINK (R17). -/
def Ev.restoreLink (e : Ev) (port : Byte) : Ev × TakeResult :=
  match portOf port with
  | none => (e, .no .badField)
  | some p =>
    if (e.port p).state = .faulted then (e.resettle p .restore, .done (word (portNum p)) 0 0)
    else (e, .no .notFaulted)

/-! ## Rows -/

/-- MARK_DUE (R4). -/
def execMarkDue (p : Port) (s : State) : Host.Outcome State Fault Refusal :=
  .next (runEvent (fun e => e.markDue p) s)

/-- FRAME_END (R5). -/
def execFrameEnd (p : Port) (s : State) : Host.Outcome State Fault Refusal :=
  .next (runEvent (fun e => e.frameEnd p) s)

/-- MARK_RECEIVED (R3). -/
def execMarkReceived (p : Port) (ident : Ident) (carEnd : Byte) (s : State) :
    Host.Outcome State Fault Refusal :=
  .next (runEvent (fun e => e.markReceived p ident carEnd) s)

/-- FRAMING_ERROR (R2). -/
def execFramingError (p : Port) (s : State) : Host.Outcome State Fault Refusal :=
  .next (runEvent (fun e => e.frameError p) s)

/-- FRAME_CHECK_FAILURE (R2). -/
def execFrameCheckFailure (p : Port) (s : State) : Host.Outcome State Fault Refusal :=
  .next (runEvent (fun e => e.frameError p) s)

/-- SILENCE_TIMER_EXPIRY (R8, R9). -/
def execSilenceTimerExpiry (p : Port) (s : State) : Host.Outcome State Fault Refusal :=
  .next (runEvent (fun e => e.silenceExpiry p) s)

/-- QUALITY_WINDOW_END (R11). -/
def execQualityWindowEnd (s : State) : Host.Outcome State Fault Refusal :=
  .next (runEvent (fun e => e.windowsEnd) s)

end Sys2Proof.Machine
end

