-- ==== Sys2Proof/Machine/Arrival.lean ====
section
/-! DEFINITION. Chapter 3, arrival: generation, side, addressing, hand-off, forwarding; and the thirteen telegram rows. -/

namespace Sys2Proof.Machine

/-! ## Checks (R53 to R55) -/

/-- The generation check (R53). -/
def Blocks.genOk (b : Blocks) (k : Sane) (gen : Byte) : Bool :=
  match b.consist.table with
  | some t => gen == t.gen
  | none => gen == 0 && k.kind == .data && k.mode == .neighbour

/-- The side-of-arrival check for source position `src` (R54). -/
def sideOk (t : LiveTable) (p : Port) (src : Nat) : Bool :=
  if p = t.toward then decide (1 ≤ src) && decide (src < t.pos)
  else decide (t.pos < src) && decide (src ≤ t.entries.length)

/-- Whether the car is addressed (R55). -/
def addressed (t : LiveTable) (m : Mode) (lo hi : Nat) : Bool :=
  match m with
  | .neighbour | .all => true
  | .position => lo == t.pos
  | .range => decide (lo ≤ t.pos) && decide (t.pos ≤ hi)
  | .lead => t.pos == 1

/-- The lowest and highest position beyond a car for a telegram from port `p` (R55). -/
def beyondOf (t : LiveTable) (p : Port) : Nat × Nat :=
  if p = t.toward then (t.pos + 1, t.entries.length) else (1, t.pos - 1)

/-- Whether an addressed position lies beyond (R55). -/
def dueForward (t : LiveTable) (p : Port) (m : Mode) (lo hi : Nat) : Bool :=
  let a := (beyondOf t p).1
  let z := (beyondOf t p).2
  match m with
  | .neighbour => false
  | .position => decide (a ≤ lo) && decide (lo ≤ z)
  | .range => decide (max a lo ≤ min z hi)
  | .all => decide (a ≤ z)
  | .lead => decide (a ≤ 1) && decide (1 ≤ z)

/-! ## Hand-off (R57) -/

/-- A sweep-family telegram at the consist block, with its arrival port. -/
def Ev.takeFamily (e : Ev) (p : Port) (k : Kind) (payload : List Byte) : Ev :=
  match k with
  | .sweep => match parseSweep payload with | some b => e.takeSweep p b | none => e
  | .ret => match parseSweep payload with | some b => e.takeReturn p b | none => e
  | .sweepFail => match parseFail payload with | some b => e.takeSweepFail p b | none => e
  | .confirm => match parseConfirm payload with | some b => e.takeConfirm p b | none => e
  | .dissolve => match payload with | [g] => e.takeDissolve p g | _ => e
  | .beacon | .brk | .join | .door | .summary | .demand | .grant | .data => e

/-- A telegram of any other kind at its consumers. -/
def Ev.consume (e : Ev) (k : Kind) (t : Telegram) : Ev :=
  match k with
  | .beacon => match parseBeacon t.payload with | some b => e.takeBeacon b | none => e
  | .brk | .join => e.takeReport
  | .door => e.takeDoor t.payload
  | .summary => e.takeSummary t
  | .demand => e.takeDemand t
  | .grant => e.takeGrant t.payload
  | .data | .sweep | .ret | .sweepFail | .confirm | .dissolve => e

/-- Hand a telegram off locally: its consumer, then the delivery map (R57, R58). -/
def Ev.handOff (e : Ev) (p : Port) (k : Kind) (t : Telegram) : Ev := (e.consume k t).offer (portNum p) t

/-! ## Forwarding (R56) -/

/-- The copy that goes on: hops left one less. -/
def forwarded (t : Telegram) : Telegram := { t with hdr := { t.hdr with hops := t.hdr.hops - 1 } }

/-- Forward a telegram that is due for it (R56). -/
def Ev.forward (e : Ev) (p : Port) (c : Cls) (t : Telegram) : Ev :=
  if t.hdr.hops = 0 then e.drop p c
  else (e.placeCopies c none [{ port := portOther p, tel := forwarded t }]).1

/-! ## Arrival (R52 to R57) -/

/-- A telegram that passed R54 at a positioned car (R55 to R57). -/
def Ev.route (e : Ev) (t : LiveTable) (p : Port) (k : Sane) (x : Telegram) : Ev :=
  let here := addressed t k.mode x.hdr.dstLo.toNat x.hdr.dstHi.toNat
  let on := dueForward t p k.mode x.hdr.dstLo.toNat x.hdr.dstHi.toNat
  if k.kind = .summary ∧ here = false ∧ on then e.handOff p k.kind x
  else if here = false ∧ on = false then e.drop p k.cls
  else
    let e1 := if here then e.handOff p k.kind x else e
    if on then e1.forward p k.cls x else e1

/-- A telegram that passed header sanity (R53 to R57). -/
def Ev.arriveSane (e : Ev) (p : Port) (k : Sane) (x : Telegram) : Ev :=
  if sweepFamily k.kind then (e.takeFamily p k.kind x.payload).offer (portNum p) x
  else if e.toBlocks.genOk k x.hdr.gen then
    match e.consist.table with
    | none => e.handOff p k.kind x
    | some t =>
      if k.mode = .neighbour then e.handOff p k.kind x
      else if sideOk t p x.hdr.srcPos.toNat then e.route t p k x
      else e.drop p k.cls
  else e.drop p k.cls

/-- A telegram frame received on a port (R14, R52). -/
def Ev.arrive (e : Ev) (p : Port) (x : Telegram) : Ev :=
  if e.isUp p then
    match headerSanity x with
    | some k => e.arriveSane p k x
    | none => e.setPort p (e.port p).addError
  else e

/-! ## Rows -/

/-- SWEEP (R32). -/
def execSweepTelegram (p : Port) (t : Telegram) (s : State) : Host.Outcome State Fault Refusal :=
  .next (runEvent (fun e => e.arrive p t) s)

/-- RETURN (R35). -/
def execReturnTelegram (p : Port) (t : Telegram) (s : State) : Host.Outcome State Fault Refusal :=
  .next (runEvent (fun e => e.arrive p t) s)

/-- SWEEP_FAIL (R37). -/
def execSweepFailTelegram (p : Port) (t : Telegram) (s : State) : Host.Outcome State Fault Refusal :=
  .next (runEvent (fun e => e.arrive p t) s)

/-- CONFIRM (R36). -/
def execConfirmTelegram (p : Port) (t : Telegram) (s : State) : Host.Outcome State Fault Refusal :=
  .next (runEvent (fun e => e.arrive p t) s)

/-- DISSOLVE (R44). -/
def execDissolveTelegram (p : Port) (t : Telegram) (s : State) : Host.Outcome State Fault Refusal :=
  .next (runEvent (fun e => e.arrive p t) s)

/-- BEACON (R42). -/
def execBeaconTelegram (p : Port) (t : Telegram) (s : State) : Host.Outcome State Fault Refusal :=
  .next (runEvent (fun e => e.arrive p t) s)

/-- BREAK (R47). -/
def execBreakTelegram (p : Port) (t : Telegram) (s : State) : Host.Outcome State Fault Refusal :=
  .next (runEvent (fun e => e.arrive p t) s)

/-- JOIN (R47). -/
def execJoinTelegram (p : Port) (t : Telegram) (s : State) : Host.Outcome State Fault Refusal :=
  .next (runEvent (fun e => e.arrive p t) s)

/-- DOOR_TELEGRAM (R101). -/
def execDoorTelegram (p : Port) (t : Telegram) (s : State) : Host.Outcome State Fault Refusal :=
  .next (runEvent (fun e => e.arrive p t) s)

/-- SUMMARY (R115). -/
def execSummaryTelegram (p : Port) (t : Telegram) (s : State) : Host.Outcome State Fault Refusal :=
  .next (runEvent (fun e => e.arrive p t) s)

/-- DEMAND (R142). -/
def execDemandTelegram (p : Port) (t : Telegram) (s : State) : Host.Outcome State Fault Refusal :=
  .next (runEvent (fun e => e.arrive p t) s)

/-- GRANT (R154). -/
def execGrantTelegram (p : Port) (t : Telegram) (s : State) : Host.Outcome State Fault Refusal :=
  .next (runEvent (fun e => e.arrive p t) s)

/-- DATA (R58). -/
def execDataTelegram (p : Port) (t : Telegram) (s : State) : Host.Outcome State Fault Refusal :=
  .next (runEvent (fun e => e.arrive p t) s)

end Sys2Proof.Machine
end

