-- ==== Sys2Proof/Machine/Sending.lean ====
section
/-! DEFINITION. Chapter 3, the SEND command: checks, acceptance, waiting, abandon (R69 to R72). -/

namespace Sys2Proof.Machine

/-- A destination byte outside 1..32. -/
def badPosition (d : Nat) : Bool := decide (d < 1) || decide (32 < d)

/-- Row 4 of R69: the destination bytes do not fit the mode; POSITION and RANGE take both. -/
def badDest (m : Mode) (lo hi : Nat) : Bool :=
  match m with
  | .neighbour => lo != 1 && lo != 2
  | .position => badPosition lo || badPosition hi
  | .range => badPosition lo || badPosition hi || decide (hi < lo)
  | .all | .lead => false

/-- Row 6 of R69: a destination position above N, in either byte, or a NEIGHBOUR port that is not UP. -/
def Blocks.unreachable (b : Blocks) (m : Mode) (lo hi : Nat) : Bool :=
  match m with
  | .neighbour => !b.isUp (if lo = 2 then .p2 else .p1)
  | .position | .range => decide (b.cars < lo) || decide (b.cars < hi)
  | .all | .lead => false

/-- The DATA telegram of a SEND, with the sequence counter's value (R59, R70). In mode POSITION its one
position is the low byte, sent in both fields: DESIGN CHOICE, log entry 11. -/
def Blocks.dataOutgoing (b : Blocks) (c : Cls) (m : Mode) (lo hi flags : Byte) (payload : List Byte) :
    Outgoing :=
  { kind := .data, cls := c, mode := m, lo := lo, hi := if m = .position then lo else hi
    flags := flags, seq := b.relay.seq, payload := payload }

/-- Originate the DATA of a SEND in its mode. Its copies bear the present count of originations as the mark of
the SEND (log entry 34). -/
def Ev.originateData (e : Ev) (o : Outgoing) : Ev × Originated :=
  match o.mode with
  | .neighbour =>
    let x := e.sendNeighbour (if o.lo = 2 then .p2 else .p1) o (some e.origCount)
    (x.1, { report := x.2, localTel := none })
  | .position | .range | .all | .lead => e.originate o (some e.origCount)

/-- An accepted SEND with mark `id` (R70): the counter advances, the local copy is offered, and the SEND
waits or is done. -/
def Ev.acceptSend (e : Ev) (n : Fin 16) (id : Nat) (seq : Word) (x : Originated) : Ev × TakeResult :=
  let e1 := (e.setRelay { e.relay with seq := seq + 1 }).offerLocal x.localTel
  if x.report.placed = 0 then
    (e1, .done seq (hiLo 0 x.report.down) (flagWord x.localTel.isSome))
  else
    (e1.setRelay { e1.relay with waiting := e1.relay.waiting ++
        [{ slot := some n, id := id, seq := seq, left := x.report.placed, sent := 0, lost := x.report.down
           localCopy := x.localTel.isSome }] },
     .taken (.send id) seq)

/-- Rows 7 and 8 of R69. A refused SEND is not originated, but its drops are counted (R69, R63, log
entry 32). -/
def Ev.admitSend (e : Ev) (n : Fin 16) (o : Outgoing) : Ev × TakeResult :=
  let x := e.originateData o
  if x.2.report.refused ≠ 0 then (x.1, .no .noBuffer) else x.1.acceptSend n e.origCount o.seq x.2

/-- Rows 5 to 8 of R69; row 6 examines the destination bytes of the command, `lo` and `hi`, as row 4 does. -/
def Ev.trySend (e : Ev) (n : Fin 16) (lo hi : Byte) (o : Outgoing) : Ev × TakeResult :=
  if o.mode ≠ .neighbour ∧ e.consist.table = none then (e, .no .noConsist)
  else if e.toBlocks.unreachable o.mode lo.toNat hi.toNat then (e, .no .badDestination)
  else e.admitSend n o

/-- SEND taken from slot `n` (R69): `rest` is what the body holds after its fixed part. -/
def Ev.sendCommand (e : Ev) (n : Fin 16) (cls mode lo hi flags : Byte) (plen : Nat) (rest : List Byte) :
    Ev × TakeResult :=
  match clsOf cls.toNat, modeOf mode.toNat with
  | some c, some m =>
    if c = .safety ∨ c = .power then (e, .no .badClass)
    else if Config.maxPayload < plen ∨ rest.length < plen then (e, .no .badLength)
    else if badDest m lo.toNat hi.toNat then (e, .no .badField)
    else e.trySend n lo hi (e.toBlocks.dataOutgoing c m lo hi flags (rest.take plen))
  | _, _ => (e, .no .badField)

/-! ## Abandon (R72) -/

/-- Whether a queued telegram is a copy of the SEND with mark `id`. -/
def QTel.isCopy (q : QTel) (id : Nat) : Bool := q.origin == some id

/-- A list of queued telegrams without the copies of a SEND. -/
def dropCopies (id : Nat) (qs : List QTel) : List QTel := qs.filter fun q => !q.isCopy id

/-- Whether a copy of a SEND stands in a queue of a port. -/
def LinkPort.hasQueued (lp : LinkPort) (id : Nat) : Bool :=
  lp.queues.toList.any fun qs => qs.any fun q => q.isCopy id

/-- A transmission whose end is no longer reported to the SEND. -/
def Transmit.detach (t : Transmit) (id : Nat) : Transmit :=
  match t with
  | .telegram q => .telegram (if q.isCopy id then { q with origin := none } else q)
  | .idle => .idle
  | .mark i => .mark i
  | .abort => .abort

/-- A port without the queued copies of a SEND; a SERVICE queue emptied by it gives up its deficit. -/
def LinkPort.withoutCopies (lp : LinkPort) (id : Nat) : LinkPort :=
  let q := lp.queues
  { lp with
    queues := { x0 := dropCopies id q.x0, x1 := dropCopies id q.x1, x2 := dropCopies id q.x2
                x3 := dropCopies id q.x3 }
    defService := if dropCopies id q.x3 = [] then 0 else lp.defService
    tx := lp.tx.detach id }

/-- The blocks without the SEND with mark `id` and its queued copies. -/
def Blocks.withoutSend (b : Blocks) (id : Nat) : Blocks :=
  { b with port1 := b.port1.withoutCopies id, port2 := b.port2.withoutCopies id
           relay := { b.relay with waiting := b.relay.waiting.filter fun w => w.id ≠ id } }

/-- The abandon of a SEND (R72): none when no copy is still queued. Else the event, with the SEND as it
waited. -/
def Ev.abandonSend (e : Ev) (id : Nat) : Option (Ev × WaitSend) :=
  match findSend id e.relay.waiting with
  | some w =>
    if e.port1.hasQueued id ∨ e.port2.hasQueued id then
      some ({ e with toBlocks := e.toBlocks.withoutSend id }, w)
    else none
  | none => none

end Sys2Proof.Machine
end

