-- ==== Sys2Proof/Machine/Adoption.lean ====
section
/-! DEFINITION. ADOPT_PROFILE: examination, adoption and the reactions of the blocks (R179, R180). -/

namespace Sys2Proof.Machine

/-- Row 2 of R179: the adopted profile would leave the active cab without a cab or an identity. -/
def Blocks.cabForbids (b : Blocks) (f : Profile) : Bool :=
  match b.consist.cabEnd with
  | some p => !f.cabAt p || f.identity == 0
  | none => false

/-- Row 3 of R179: the sides whose count would change with a door open, as bits 0 left and 1 right. -/
def Blocks.openSides (b : Blocks) (f : Profile) : Nat :=
  flagNat (decide (f.doorsLeft ≠ b.profile.doorsLeft) && b.doors.left.blocksCount b.profile.doorsLeft) +
  2 * flagNat (decide (f.doorsRight ≠ b.profile.doorsRight) &&
    b.doors.right.blocksCount b.profile.doorsRight)

/-- The items of the sweep entry differ (R180). -/
def entryChanged (f g : Profile) : Bool :=
  f.identity != g.identity || f.doorsLeft != g.doorsLeft || f.doorsRight != g.doorsRight ||
    f.cab1 != g.cab1 || f.cab2 != g.cab2 || f.sensor != g.sensor || f.r != g.r || f.f != g.f || f.s != g.s

/-- The groups of fields that differ, in the order of R180 from bit 0. -/
def changedGroups (f g : Profile) : List Bool :=
  [f.identity != g.identity,
   f.doorsLeft != g.doorsLeft || f.doorsRight != g.doorsRight,
   f.cab1 != g.cab1 || f.cab2 != g.cab2,
   f.sensor != g.sensor || f.z != g.z,
   f.r != g.r || f.f != g.f || f.s != g.s,
   f.mode != g.mode,
   f.closeLimit != g.closeLimit,
   f.otLimit != g.otLimit || f.otHyst != g.otHyst,
   f.hcuScale != g.hcuScale,
   f.q != g.q,
   f.powerWeight != g.powerWeight || f.serviceWeight != g.serviceWeight || f.limSafety != g.limSafety ||
     f.limControl != g.limControl || f.limPower != g.limPower || f.limService != g.limService]

/-- Flags as a number, the first in bit 0. -/
def bitsNat : List Bool → Nat
  | [] => 0
  | b :: bs => flagNat b + 2 * bitsNat bs

/-- Whether the adoption of `g` over `f` sends JOIN at this car (R180, R46, log entry 16). -/
def Blocks.joinDue (b : Blocks) (f g : Profile) : Bool :=
  entryChanged f g && b.consist.table.isSome

/-- The profile is replaced whole and the blocks react in the order of R180 (log entry 19). -/
def Ev.adopt (e : Ev) (g : Profile) : Ev :=
  let f := e.profile
  let e1 := { e with profile := g }.adoptMotion f.z
  let e2 := e1.adoptDoors { e1.toBlocks with profile := f }
  let e3 := ((e2.fittedWithdraw e.motion.state).adoptLimit f.otLimit).adoptStandby f.s
  if e.toBlocks.joinDue f g then e3.join .profileChanged else e3

/-- ADOPT_PROFILE on the profile area as read (R179). -/
def Ev.adoptProfile (e : Ev) (h : Memory) : Ev × TakeResult :=
  let g := (readProfile h).1
  match firstBadField g (readProfile h).2 with
  | some off => (e, .refused .badField 0 (word off))
  | none =>
    if e.toBlocks.cabForbids g then (e, .no .cabActive)
    else if e.toBlocks.openSides g ≠ 0 then (e, .refused .doorsNotClosed 0 (word (e.toBlocks.openSides g)))
    else
      (e.adopt g,
       .done (word (bitsNat (changedGroups e.profile g) + 32768 * flagNat (e.toBlocks.joinDue e.profile g)))
         0 0)

end Sys2Proof.Machine
end

