-- ==== Sys2Proof/Machine/Slots.lean ====
section
/-! DEFINITION. Command slots: taking, completing, abandoning, the scanner, and the slot command rows (R167 to R171). -/

namespace Sys2Proof.Machine

/-! ## Taking (R169) -/

/-- A command at its owning block (R169, step 4). -/
def Ev.dispatch (e : Ev) (h : Memory) (n : Fin 16) (c : SlotCmd) : Ev × TakeResult :=
  match c with
  | .adoptProfile => e.adoptProfile h
  | .setCab x => e.setCab x
  | .startSweep => e.startSweep n
  | .send cls mode lo hi flags plen rest => e.sendCommand n cls mode lo hi flags plen rest
  | .door action scope side lo hi number attest =>
    e.doorCommand { action := action.toNat, scope := scope.toNat, side := side.toNat, lo := lo.toNat
                    hi := hi.toNat, number := number.toNat, attest := attest == 1 }
  | .heatSet setpoint gain boost => e.heatSet setpoint gain boost
  | .budget b vlow => e.budget b vlow
  | .monitor start stop mode => e.monitorCommand n start stop mode
  | .restoreLink port => e.restoreLink port

/-- Steps 1 and 2 of R169: the reply is cleared, the tag echoed, and the next pass starts after slot `n`
(R168). -/
def Iface.openSlot (i : Iface) (n : Fin 16) (tag : Byte) : Iface :=
  { i with scanNext := n + 1 }.setSlot n
    { i.slot n with tagEcho := tag, result := 0, d1 := 0, d2 := 0, d3 := 0 }

/-- The reply of a command taken in slot `n` (R169, R170). -/
def Iface.reply (i : Iface) (n : Fin 16) (r : TakeResult) : Iface :=
  match r with
  | .done d1 d2 d3 => i.finishSlot n .done 0 d1 d2 d3
  | .refused code d1 d2 => i.finishSlot n .refused (word (resultCodeNum code)) d1 d2 0
  | .taken op d1 => i.setSlot n { i.slot n with state := .taken, d1 := d1, op := some op }

/-- Taking a slot (R169). -/
def State.takeSlot (s : State) (n : Fin 16) (tag : Byte) (kind len : Nat) (body : List Byte) : State :=
  match parseCmd kind len body with
  | .error code => { s with ifc := (s.ifc.openSlot n tag).reply n (.no code) }
  | .ok c =>
    let x := (Ev.start s.blk).dispatch s.host n c
    { s with ifc := (s.ifc.openSlot n tag).reply n x.2 }.finish x.1

/-! ## Abandon (R171) -/

/-- An ABANDON on a TAKEN slot with a matching tag (R171). -/
def State.abandonSlot (s : State) (n : Fin 16) : State :=
  match (s.ifc.slot n).op with
  | some .sweep =>
    match (Ev.start s.blk).abandonSweep with
    | some (e, d2) => { s with ifc := s.ifc.finishSlot n .abandoned 0 0 d2 0 }.finish e
    | none => s
  | some (.send id) =>
    match (Ev.start s.blk).abandonSend id with
    | some (e, w) => { s with ifc := s.ifc.finishSlot n .abandoned 0 w.seq (hiLo w.sent 0) 0 }.finish e
    | none => s
  | some .once | none => s

/-! ## A visit and a pass (R168) -/

/-- A slot is finished (R167). -/
def Slot.finished (x : Slot) : Bool := x.state == .done || x.state == .refused || x.state == .abandoned

/-- A visit of the scanner to slot `n` that reads request `r`, body length `len` and the body (R168). -/
def State.visit (s : State) (n : Fin 16) (r : Request) (len : Nat) (body : List Byte) : State :=
  let x := s.ifc.slot n
  match r.req with
  | .idle => if x.finished then { s with ifc := s.ifc.setSlot n { x with state := .free } } else s
  | .posted =>
    if r.tag ≠ x.tagEcho ∧ x.state ≠ .taken then s.takeSlot n r.tag r.kind len body else s
  | .abandon => if r.tag = x.tagEcho ∧ x.state = .taken then s.abandonSlot n else s

/-- The words of memory from an address. -/
def Memory.readWords (m : Memory) (a : Nat) : Nat → List Word
  | 0 => []
  | k + 1 => m.read a :: Memory.readWords m (a + 1) k

/-- The body length of slot `n` as written. -/
def slotLen (h : Memory) (n : Fin 16) : Nat := (h.read (slotAddr n 1)).toNat

/-- The body of slot `n`, at most 480 bytes. -/
def slotBody (h : Memory) (n : Fin 16) : List Byte :=
  let len := min Config.maxBody (slotLen h n)
  (unpackWords (h.readWords (slotAddr n 16) ((len + 1) / 2))).take len

/-- A visit that reads the slot from memory. -/
def State.visitSlot (s : State) (n : Fin 16) : State :=
  s.visit n (parseRequest (s.host.read (slotAddr n 0))) (slotLen s.host n) (slotBody s.host n)

/-- The slots of a pass that starts at `k`, in visiting order. -/
def passOrder (k : Fin 16) : List (Fin 16) :=
  [k, k + 1, k + 2, k + 3, k + 4, k + 5, k + 6, k + 7, k + 8, k + 9, k + 10, k + 11, k + 12, k + 13,
   k + 14, k + 15]

/-- One pass of the scanner (R168). -/
def State.scanPass (s : State) : State :=
  if s.ifc.scan then (passOrder s.ifc.scanNext).foldl State.visitSlot s else s

/-! ## Posting (log entry 4) -/

/-- The host writes a body and a request into slot `n`. -/
def State.post (s : State) (n : Fin 16) (r : Request) (body : List Byte) : State :=
  { s with host :=
      ((s.host.writeWords (slotAddr n 16) (packBytes (body.take Config.maxBody))).write (slotAddr n 1)
        (word body.length)).write (slotAddr n 0) (requestWord r.req r.kind r.tag) }

/-- A slot command row: the host posts it, and the scanner visits that slot while SCAN is 1. -/
def State.command (s : State) (n : Fin 16) (tag : Byte) (kind : Nat) (body : List Byte) : State :=
  let r : Request := { req := .posted, kind := kind, tag := tag }
  let s1 := s.post n r body
  if s.ifc.scan then s1.visit n r body.length body else s1

/-- The ABANDON row: the host writes the request ABANDON with this tag, the kind kept. -/
def State.abandon (s : State) (n : Fin 16) (tag : Byte) : State :=
  let kind := (parseRequest (s.host.read (slotAddr n 0))).kind
  let s1 := { s with host := s.host.write (slotAddr n 0) (requestWord .abandon kind tag) }
  if s.ifc.scan then s1.visit n { req := .abandon, kind := kind, tag := tag } 0 [] else s1

/-! ## Rows -/

/-- SCAN_PASS (R168). -/
def execScanPass (s : State) : Host.Outcome State Fault Refusal := .next s.scanPass

/-- ADOPT_PROFILE (R179). -/
def execAdoptProfile (n : Fin 16) (tag : Byte) (s : State) : Host.Outcome State Fault Refusal :=
  .next (s.command n tag 1 [])

/-- SET_CAB (R24). -/
def execSetCab (n : Fin 16) (tag : Byte) (cabEnd : Byte) (s : State) : Host.Outcome State Fault Refusal :=
  .next (s.command n tag 2 [cabEnd])

/-- START_SWEEP (R27). -/
def execStartSweep (n : Fin 16) (tag : Byte) (s : State) : Host.Outcome State Fault Refusal :=
  .next (s.command n tag 3 [])

/-- SEND (R69). -/
def execSend (n : Fin 16) (tag : Byte) (cls mode lo hi flags : Byte) (plen : Word) (payload : List Byte)
    (s : State) : Host.Outcome State Fault Refusal :=
  .next (s.command n tag 4 ([cls, mode, lo, hi, flags] ++ wordBytes plen ++ payload))

/-- DOOR (R102). -/
def execDoor (n : Fin 16) (tag : Byte) (action scope side lo hi number attest : Byte) (s : State) :
    Host.Outcome State Fault Refusal :=
  .next (s.command n tag 5 [action, scope, side, lo, hi, number, attest])

/-- HEAT_SET (R129). -/
def execHeatSet (n : Fin 16) (tag : Byte) (setpoint : Word) (gain boost : Byte) (s : State) :
    Host.Outcome State Fault Refusal :=
  .next (s.command n tag 6 (wordBytes setpoint ++ [gain, boost]))

/-- BUDGET (R147). -/
def execBudget (n : Fin 16) (tag : Byte) (b vlow : Word) (s : State) : Host.Outcome State Fault Refusal :=
  .next (s.command n tag 7 (wordBytes b ++ wordBytes vlow))

/-- MONITOR (R133). -/
def execMonitor (n : Fin 16) (tag : Byte) (start stop mode : Byte) (s : State) :
    Host.Outcome State Fault Refusal :=
  .next (s.command n tag 8 [start, stop, mode])

/-- RESTORE_LINK (R17). -/
def execRestoreLink (n : Fin 16) (tag : Byte) (port : Byte) (s : State) :
    Host.Outcome State Fault Refusal :=
  .next (s.command n tag 9 [port])

/-- ABANDON (R171). -/
def execAbandon (n : Fin 16) (tag : Byte) (s : State) : Host.Outcome State Fault Refusal :=
  .next (s.abandon n tag)

end Sys2Proof.Machine
end

