-- ==== Sys2Proof/Machine/Interface.lean ====
section
/-! DEFINITION. The bus side of the exchange interface: registers, memory writes, drains, HOLD, IFRESET, the resets (R163 to R166, R173, R176, R181, R182). -/

namespace Sys2Proof.Machine

/-! ## Interface restart (R182) -/

/-- A page at an interface restart: U 0 and O clear; body and deferred content kept. -/
def Page.restart (g : Page) : Page := { g with u := 0, o := false }

/-- A delivery queue at an interface restart: empty, lost count 0. -/
def DQueue.restart (q : DQueue) : DQueue := { q with fill := q.validDrain, lost := 0 }

/-- A slot at an interface restart: FREE, reply 0, its operation detached. -/
def Slot.restart (_ : Slot) : Slot := {}

/-- The interface after a restart; CAUSE_ENABLE is kept. -/
def Iface.restart (i : Iface) : Iface :=
  { i with
    scan := false, deliver := false, cause := 0
    slots := i.slots.map Slot.restart, scanNext := 0
    pages := i.pages.map Page.restart
    queues := { x0 := i.queues.x0.restart, x1 := i.queues.x1.restart, x2 := i.queues.x2.restart
                x3 := i.queues.x3.restart } }

/-- The blocks with every reported operation detached: it runs on and completes without a slot. -/
def Blocks.detach (b : Blocks) : Blocks :=
  { b with
    consist := { b.consist with sweepSlot := none }
    monitor := { b.monitor with waitSlot := none }
    relay := { b.relay with waiting := b.relay.waiting.map fun w => { w with slot := none } } }

/-- IFRESET (R182). -/
def State.restartIface (s : State) : State := { s with ifc := s.ifc.restart, blk := s.blk.detach }

/-! ## Register writes (R163 to R165) -/

/-- A write to CONTROL (R164). -/
def State.writeControl (s : State) (w : Word) : State :=
  if controlIfreset w then s.restartIface
  else { s with ifc := { s.ifc with scan := w.getLsbD 0, deliver := w.getLsbD 1 } }

/-- A write to register `n` (R163). -/
def State.regWrite (s : State) (n : Nat) (w : Word) : State :=
  match n with
  | 1 => s.writeControl w
  | 2 => { s with ifc := s.ifc.clearCauses w }
  | 3 => { s with ifc := { s.ifc with enable := w.setWidth 5 } }
  | _ => s

/-! ## Memory writes (R166, R173, R176) -/

/-- The queue whose drain word stands at an address. -/
def drainOf (a : Nat) : Option (Fin 4) :=
  if h : 0x90 ≤ a ∧ a < 0x94 then some ⟨a - 0x90, by omega⟩ else none

/-- The page whose HOLD word stands at an address. -/
def holdOf (a : Nat) : Option PageId := allPages.find? fun p => holdAddr (pageIdx p).val == a

/-- The examination of a drain write (R176). -/
def Iface.drain (i : Iface) (q : Fin 4) (w : Word) : Iface :=
  let d : BitVec 4 := w.setWidth 4
  let x := i.queues.get q
  if (x.fill - d).toNat ≤ 8 then { i with queues := i.queues.set q { x with validDrain := d } }
  else i.setCause .drainInvalid

/-- The examination of a write to a HOLD word (R173): only one that clears HOLD acts; `before` and `h`
are the memory before and after it. -/
def Iface.holdWrite (i : Iface) (before h : Memory) (p : PageId) : Iface :=
  if pageHeld before p ∧ !pageHeld h p then i.releasePage h p else i

/-- A bus write to exchange memory (R166): one to a part-written or unused word is ignored. -/
def State.busWrite (s : State) (a : Nat) (w : Word) : State :=
  if hostWritten a then
    let h := s.host.write a w
    match drainOf a, holdOf a with
    | some q, _ => { s with host := h, ifc := s.ifc.drain q w }
    | none, some p => { s with host := h, ifc := s.ifc.holdWrite s.host h p }
    | none, none => { s with host := h }
  else s

/-! ## Resets (R181) -/

/-- A side after reset: no door configured, the contact inputs at their levels. -/
def SideRec.afterReset (r : SideRec) : SideRec :=
  { doors := { x0 := { contact := r.doors.x0.contact }, x1 := { contact := r.doors.x1.contact }
               x2 := { contact := r.doors.x2.contact }, x3 := { contact := r.doors.x3.contact } } }

/-- The blocks at the reset values of their chapters, with the levels of the input pins (log entry 3). -/
def Blocks.afterReset (b : Blocks) : Blocks :=
  { motion := { refA := b.motion.refA, refB := b.motion.refB }
    doors := { left := b.doors.left.afterReset, right := b.doors.right.afterReset }
    origCount := b.origCount }

/-- What happens at the release of reset: the first marks (R4), the first heater cycle (R157), the DOOR
page (R108) (log entry 2). -/
def Ev.release (e : Ev) : Ev := ((((e.startMark .p1).startMark .p2).startCycle).ask .door)

/-- Both resets; `h` is the host-written memory after it. -/
def State.resetWith (s : State) (h : Memory) : State :=
  { s with blk := s.blk.afterReset, ifc := {}, host := h }.finish (Ev.start s.blk.afterReset).release

/-! ## Rows -/

/-- POWER_ON_RESET (R181). -/
def execPowerOnReset (s : State) : Host.Outcome State Fault Refusal := .next (s.resetWith [])

/-- RESET_PIN (R181). -/
def execResetPin (s : State) : Host.Outcome State Fault Refusal := .next (s.resetWith s.host)

/-- IFRESET (R182). -/
def execIfreset (w : Word) (s : State) : Host.Outcome State Fault Refusal := .next (s.regWrite 1 w)

/-- SCAN (R164). -/
def execScan (w : Word) (s : State) : Host.Outcome State Fault Refusal := .next (s.regWrite 1 w)

/-- DELIVER (R164). -/
def execDeliver (w : Word) (s : State) : Host.Outcome State Fault Refusal := .next (s.regWrite 1 w)

/-- CAUSE_CLEAR (R165). -/
def execCauseClear (w : Word) (s : State) : Host.Outcome State Fault Refusal := .next (s.regWrite 2 w)

/-- CAUSE_ENABLE_WRITE (R165). -/
def execCauseEnableWrite (w : Word) (s : State) : Host.Outcome State Fault Refusal :=
  .next (s.regWrite 3 w)

/-- REGISTER_WRITE_IGNORED (R163). -/
def execRegisterWriteIgnored (n : BitVec 3) (w : Word) (s : State) : Host.Outcome State Fault Refusal :=
  .next (s.regWrite n.toNat w)

/-- MEMORY_WRITE (R166). -/
def execMemoryWrite (a : BitVec 14) (w : Word) (s : State) : Host.Outcome State Fault Refusal :=
  .next (s.busWrite a.toNat w)

/-- DRAIN_WRITE (R176). -/
def execDrainWrite (q : Fin 4) (w : Word) (s : State) : Host.Outcome State Fault Refusal :=
  .next (s.busWrite (drainAddr q) w)

/-- HOLD_SET (R173). -/
def execHoldSet (p : PageId) (w : Word) (s : State) : Host.Outcome State Fault Refusal :=
  .next (s.busWrite (holdAddr (pageIdx p).val) w)

/-- HOLD_RELEASE (R173). -/
def execHoldRelease (p : PageId) (w : Word) (s : State) : Host.Outcome State Fault Refusal :=
  .next (s.busWrite (holdAddr (pageIdx p).val) w)

end Sys2Proof.Machine
end

