-- ==== Sys2Proof/Machine/View.lean ====
section
/-! DEFINITION. What a bus read returns: the register window and the whole of exchange memory (R163, R166, chapter 11). -/

namespace Sys2Proof.Machine

/-- The words of a delivery entry (R184); words past the last named one are 0. -/
def entryWords : Entry → List Word
  | .blank => []
  | .telegram port tick t =>
    [word (0x1000 + port), tick] ++ packBytes (headerBytes t.hdr) ++ packBytes t.payload
  | .notice code tick d1 d2 => [word (0x2000 + code.toNat), tick, d1, d2]

/-- State codes of a slot (11.3). -/
def slotStateNum : SlotState → Nat
  | .free => 0
  | .taken => 1
  | .done => 2
  | .refused => 3
  | .abandoned => 4

/-- The reply of a slot from word 4 (11.3). -/
def slotWords (x : Slot) : List Word :=
  [hiLo (slotStateNum x.state) x.tagEcho.toNat, x.result, x.d1, x.d2, x.d3]

/-- The status area (11.2). -/
def statusWords (i : Iface) : List Word :=
  (i.queues.toList.map fun q => q.fill.setWidth 16) ++ i.queues.toList.map (·.lost)

/-- A page from word 0 (11.5). -/
def pageWords (g : Page) : List Word := [g.u, flagWord g.o] ++ g.body

/-- Word `i` of entry `k` of the delivery queue area, counting entries over all queues. -/
def queueWord (i : Iface) (k j : Nat) : Word :=
  let q : Fin 4 := ⟨k / 8 % 4, Nat.mod_lt _ (by decide)⟩
  let e : Fin 8 := ⟨k % 8, Nat.mod_lt _ (by decide)⟩
  (entryWords (i.queues.get q).entries[e]).getD j 0

/-- A part-written word (11.2); everything the table leaves unassigned reads 0. -/
def partWord (i : Iface) (a : Nat) : Word :=
  if a < 0x200 then (statusWords i).getD (a - 0x100) 0
  else if a < 0x1200 then
    (slotWords (i.slot ⟨(a - 0x200) / 256 % 16, Nat.mod_lt _ (by decide)⟩)).getD ((a - 0x200) % 256 - 4) 0
  else if a < 0x3200 then queueWord i ((a - 0x1200) / 256) ((a - 0x1200) % 256)
  else if h : (a - 0x3200) / 512 < 6 then
    (pageWords i.pages[(a - 0x3200) / 512]).getD ((a - 0x3200) % 512) 0
  else 0

/-- A bus read of exchange memory (R166). -/
def State.busRead (s : State) (a : BitVec 14) : Word :=
  if hostWritten a.toNat then s.host.read a.toNat else partWord s.ifc a.toNat

/-- A read of a register (R163). -/
def State.regRead (s : State) (n : BitVec 3) : Word :=
  match n.toNat with
  | 0 => Config.ident
  | 1 => word (flagNat s.ifc.scan + 2 * flagNat s.ifc.deliver)
  | 2 => s.ifc.cause.setWidth 16
  | 3 => s.ifc.enable.setWidth 16
  | 4 => s.blk.tick
  | _ => 0

end Sys2Proof.Machine
end

