-- ==== Sys2Proof/Machine/Frames.lean ====
section
/-! DEFINITION. Frames on a coupler line: check, bytes, ten-bit characters and line levels, duration, and the commands that a receiver makes of line levels (R1, R2, R15, 11.6). -/

namespace Sys2Proof.Machine

/-- One bit of the frame check: generator x^16 + x^15 + x^2 + 1, least significant bit first (R2). -/
def crcBit (c : Word) : Word := if c.getLsbD 0 then (c >>> 1) ^^^ 0xA001#16 else c >>> 1

/-- One byte of the frame check. -/
def crcByte (c : Word) (b : Byte) : Word :=
  crcBit (crcBit (crcBit (crcBit (crcBit (crcBit (crcBit (crcBit (c ^^^ b.setWidth 16))))))))

/-- The frame check over type and content (R2). -/
def frameCheck (bytes : List Byte) : Word := bytes.foldl crcByte 0xFFFF

/-- Frame type codes (11.6). -/
def markType : Byte := 0x01

def telegramType : Byte := 0x02

/-- The bytes of a frame in line order (R1). -/
def frameBytes (type : Byte) (content : List Byte) : List Byte :=
  [0x55, 0xD3, type] ++ content ++ wordBytes (frameCheck (type :: content))

/-! ## Characters and line levels (R1) -/

/-- The idle level of a line, as a value of its signal; the other value is the level opposite to idle. -/
def idleLevel : Bool := true

/-- Line bits of two character times: an idle interval of more ends a frame, one of as much ends a run of
characters outside a frame and the wait after a framing error (R2). -/
def idleLimit : Nat := 20

/-- Line bits in the inter-frame gap (R1), three characters of ten. -/
def gapLength : Nat := 30

/-- The level of a data bit: idle for 1 and opposite to idle for 0 (PRESUMED, log entry 39). -/
def dataLevel (b : Bool) : Bool := if b then idleLevel else !idleLevel

/-- The ten bits of a character in line order (R1): one start bit, opposite to idle, eight data bits with the
least significant first, and one stop bit at idle (levels: log entry 39). -/
def charBits (b : Byte) : List Bool :=
  [!idleLevel, dataLevel (b.getLsbD 0), dataLevel (b.getLsbD 1), dataLevel (b.getLsbD 2),
   dataLevel (b.getLsbD 3), dataLevel (b.getLsbD 4), dataLevel (b.getLsbD 5), dataLevel (b.getLsbD 6),
   dataLevel (b.getLsbD 7), idleLevel]

/-- The inter-frame gap (R1): three character times of idle line. -/
def gapBits : List Bool := List.replicate gapLength idleLevel

/-- The line levels of a frame, bit time by bit time, with its gap (R1). -/
def frameBits (bytes : List Byte) : List Bool := bytes.flatMap charBits ++ gapBits

/-- The line levels of an abort sequence (R15): opposite to idle for two character times, then the gap. -/
def abortBits : List Bool := List.replicate 20 (!idleLevel) ++ gapBits

/-- The time a frame of content length `len` occupies the line, in µs (R1). -/
def frameTime (len : Nat) : Nat := (len + 8) * 10

/-- The content of a mark (11.6). -/
def markContent (ident : Ident) (carEnd : Byte) : List Byte := identBytes ident ++ [carEnd]

/-- The frame a transmitter is sending; the abort sequence is no frame. -/
def sentFrame (p : Port) : Transmit → List Byte
  | .idle | .abort => []
  | .mark i => frameBytes markType (markContent i (byte (portNum p)))
  | .telegram q => frameBytes telegramType (telegramBytes q.tel)

/-- The line levels a transmitter sends for what it is doing, bit time by bit time; an idle transmitter leaves
the line at idle for as long as it lasts. -/
def sentBits (p : Port) : Transmit → List Bool
  | .idle => []
  | .abort => abortBits
  | .mark i => frameBits (sentFrame p (.mark i))
  | .telegram q => frameBits (sentFrame p (.telegram q))

/-- The row of a telegram by its kind; an unknown kind has no row of its own and takes that of DATA, where
header sanity discards it (log entry 24). -/
def telegramRow (p : Port) (t : Telegram) : Instr :=
  match kindOf t.hdr.kind.toNat with
  | some .sweep => .sweepTelegram p t
  | some .ret => .returnTelegram p t
  | some .sweepFail => .sweepFailTelegram p t
  | some .confirm => .confirmTelegram p t
  | some .dissolve => .dissolveTelegram p t
  | some .beacon => .beaconTelegram p t
  | some .brk => .breakTelegram p t
  | some .join => .joinTelegram p t
  | some .door => .doorTelegram p t
  | some .summary => .summaryTelegram p t
  | some .demand => .demandTelegram p t
  | some .grant => .grantTelegram p t
  | some .data | none => .dataTelegram p t

/-- A telegram from its content bytes; none when the header is short or names more than 464 payload
bytes (R2). -/
def parseTelegram (content : List Byte) : Option Telegram :=
  match parseHeader (content.take 16) with
  | some h => if h.plen.toNat ≤ Config.maxPayload then some { hdr := h, payload := content.drop 16 } else none
  | none => none

/-- The command that a received frame is (R2): a frame that is not well formed is a framing error, and so is one
that the idle interval met before the payload its header names was whole; one whose check does not match is a
frame-check failure. A mark with more than its five content bytes before the idle interval, which R2 does not name,
is one framing error: DESIGN CHOICE, log entry 39. -/
def receivedFrame (p : Port) (type : Byte) (content : List Byte) (check : Word) : Instr :=
  if type = markType then
    match content with
    | [i0, i1, i2, i3, e] =>
      if check = frameCheck (type :: content) then .markReceived p (joinIdent i0 i1 i2 i3) e
      else .frameCheckFailure p
    | _ => .framingError p
  else if type = telegramType then
    match parseTelegram content with
    | none => .framingError p
    | some t =>
      if t.payload.length < t.hdr.plen.toNat then .framingError p
      else if check = frameCheck (type :: content) then telegramRow p t else .frameCheckFailure p
  else .framingError p

/-- The command that a run of characters is once an idle interval has ended it: a frame, or characters that form
none (R2). -/
def receivedBytes (p : Port) : List Byte → Instr
  | 0x55 :: 0xD3 :: type :: rest =>
    match rest.drop (rest.length - 2) with
    | [lo, hi] => receivedFrame p type (rest.take (rest.length - 2)) (packWord lo hi)
    | _ => .framingError p
  | _ => .framingError p

/-- The characters so far may still be those of a frame: start delimiter, a known type, and a telegram header
that names at most 464 payload bytes (R2). -/
def frameOpens : List Byte → Bool
  | [] => true
  | [d0] => d0 == 0x55
  | [d0, d1] => d0 == 0x55 && d1 == 0xD3
  | d0 :: d1 :: type :: content =>
    d0 == 0x55 && d1 == 0xD3 &&
      (type == markType || (type == telegramType &&
        match parseHeader (content.take 16) with
        | some h => decide (h.plen.toNat ≤ Config.maxPayload)
        | none => true))

/-- What a receiver is doing. -/
inductive Receiver where
  /-- Waiting after a framing error for an idle interval, of which `idle` bits have passed. -/
  | waits (idle : Nat)
  /-- Taking characters, `chars` since the last run of them ended, with `idle` bits since the last one. -/
  | takes (idle : Nat) (chars : List Byte)
  deriving DecidableEq, Repr

/-- The idle interval that ends a run: two character times outside a frame, more inside one (R2). -/
def runEnds (idle : Nat) (chars : List Byte) : Bool :=
  if chars.length < 2 then decide (idleLimit ≤ idle) else decide (idleLimit < idle)

/-- A receiver after one more bit of idle line, with the command that the idle interval ends, if any. A receiver that
waits counts every bit at the idle level, be it a data or stop bit of a character; one that takes characters counts
from the stop bit of the last: DESIGN CHOICE, log entry 39. -/
def Receiver.idleBit (p : Port) : Receiver → Receiver × List Instr
  | .waits k => (if k + 1 < idleLimit then .waits (k + 1) else .takes (k + 1) [], [])
  | .takes k [] => (.takes (k + 1) [], [])
  | .takes k (b :: bs) =>
    if runEnds (k + 1) (b :: bs) then (.takes (k + 1) [], [receivedBytes p (b :: bs)])
    else (.takes (k + 1) (b :: bs), [])

/-- A receiver after one more character, none for one with no stop bit: a framing error, after which it waits, or
one character more (R2). -/
def takeChar (p : Port) (chars : List Byte) : Option Byte → Receiver × List Instr
  | none => (.waits 0, [.framingError p])
  | some b =>
    if frameOpens (chars ++ [b]) then (.takes 0 (chars ++ [b]), []) else (.waits 0, [.framingError p])

/-- The byte of a character's data bits; none without a stop bit. -/
def readChar (b0 b1 b2 b3 b4 b5 b6 b7 stop : Bool) : Option Byte :=
  if stop = idleLevel then
    some (byte (bitsNat ([b0, b1, b2, b3, b4, b5, b6, b7].map fun b => b == dataLevel true)))
  else none

/-- The commands that line levels, bit time by bit time, bring a receiver (R1, R2). A receiver that waits after a
framing error frames no characters: any bit opposite to idle starts its idle interval anew (DESIGN CHOICE, log
entry 39). -/
def receive (p : Port) (r : Receiver) : List Bool → List Instr
  | [] => []
  | x :: rest =>
    if x = idleLevel then
      (r.idleBit p).2 ++ receive p (r.idleBit p).1 rest
    else
      match r with
      | .waits _ => receive p (.waits 0) rest
      | .takes _ chars =>
        match rest with
        | b0 :: b1 :: b2 :: b3 :: b4 :: b5 :: b6 :: b7 :: stop :: more =>
          (takeChar p chars (readChar b0 b1 b2 b3 b4 b5 b6 b7 stop)).2 ++
            receive p (takeChar p chars (readChar b0 b1 b2 b3 b4 b5 b6 b7 stop)).1 more
        | _ => []

/-- The commands that line levels bring a receiver that has found its line idle (R1, R2). -/
def receivedBits (p : Port) (bits : List Bool) : List Instr := receive p (.takes 0 []) bits

end Sys2Proof.Machine
end

