-- ==== Sys2Proof/Machine/Dispatch.lean ====
section
/-! DEFINITION. The meaning of each command: one arm per constructor of Instr. -/

namespace Sys2Proof.Machine

def exec (i : Instr) (s : State) : Host.Outcome State Fault Refusal :=
  match i with
  | .powerOnReset => Sys2Proof.Machine.execPowerOnReset s
  | .resetPin => Sys2Proof.Machine.execResetPin s
  | .ifreset w => Sys2Proof.Machine.execIfreset w s
  | .scan w => Sys2Proof.Machine.execScan w s
  | .deliver w => Sys2Proof.Machine.execDeliver w s
  | .causeClear w => Sys2Proof.Machine.execCauseClear w s
  | .causeEnableWrite w => Sys2Proof.Machine.execCauseEnableWrite w s
  | .registerWriteIgnored n w => Sys2Proof.Machine.execRegisterWriteIgnored n w s
  | .memoryWrite a w => Sys2Proof.Machine.execMemoryWrite a w s
  | .drainWrite q w => Sys2Proof.Machine.execDrainWrite q w s
  | .holdSet p w => Sys2Proof.Machine.execHoldSet p w s
  | .holdRelease p w => Sys2Proof.Machine.execHoldRelease p w s
  | .scanPass => Sys2Proof.Machine.execScanPass s
  | .adoptProfile n tag => Sys2Proof.Machine.execAdoptProfile n tag s
  | .setCab n tag cabEnd => Sys2Proof.Machine.execSetCab n tag cabEnd s
  | .startSweep n tag => Sys2Proof.Machine.execStartSweep n tag s
  | .send n tag cls mode lo hi flags plen payload => Sys2Proof.Machine.execSend n tag cls mode lo hi flags plen payload s
  | .door n tag action scope side lo hi number attest => Sys2Proof.Machine.execDoor n tag action scope side lo hi number attest s
  | .heatSet n tag setpoint gain boost => Sys2Proof.Machine.execHeatSet n tag setpoint gain boost s
  | .budget n tag b vlow => Sys2Proof.Machine.execBudget n tag b vlow s
  | .monitor n tag start stop mode => Sys2Proof.Machine.execMonitor n tag start stop mode s
  | .restoreLink n tag port => Sys2Proof.Machine.execRestoreLink n tag port s
  | .abandon n tag => Sys2Proof.Machine.execAbandon n tag s
  | .markDue p => Sys2Proof.Machine.execMarkDue p s
  | .frameEnd p => Sys2Proof.Machine.execFrameEnd p s
  | .markReceived p ident carEnd => Sys2Proof.Machine.execMarkReceived p ident carEnd s
  | .framingError p => Sys2Proof.Machine.execFramingError p s
  | .frameCheckFailure p => Sys2Proof.Machine.execFrameCheckFailure p s
  | .silenceTimerExpiry p => Sys2Proof.Machine.execSilenceTimerExpiry p s
  | .qualityWindowEnd => Sys2Proof.Machine.execQualityWindowEnd s
  | .sweepTelegram p t => Sys2Proof.Machine.execSweepTelegram p t s
  | .returnTelegram p t => Sys2Proof.Machine.execReturnTelegram p t s
  | .sweepFailTelegram p t => Sys2Proof.Machine.execSweepFailTelegram p t s
  | .confirmTelegram p t => Sys2Proof.Machine.execConfirmTelegram p t s
  | .dissolveTelegram p t => Sys2Proof.Machine.execDissolveTelegram p t s
  | .beaconTelegram p t => Sys2Proof.Machine.execBeaconTelegram p t s
  | .breakTelegram p t => Sys2Proof.Machine.execBreakTelegram p t s
  | .joinTelegram p t => Sys2Proof.Machine.execJoinTelegram p t s
  | .doorTelegram p t => Sys2Proof.Machine.execDoorTelegram p t s
  | .summaryTelegram p t => Sys2Proof.Machine.execSummaryTelegram p t s
  | .demandTelegram p t => Sys2Proof.Machine.execDemandTelegram p t s
  | .grantTelegram p t => Sys2Proof.Machine.execGrantTelegram p t s
  | .dataTelegram p t => Sys2Proof.Machine.execDataTelegram p t s
  | .returnTimerExpiry => Sys2Proof.Machine.execReturnTimerExpiry s
  | .carryTimerExpiry => Sys2Proof.Machine.execCarryTimerExpiry s
  | .beaconPeriodExpiry => Sys2Proof.Machine.execBeaconPeriodExpiry s
  | .beaconWatchExpiry => Sys2Proof.Machine.execBeaconWatchExpiry s
  | .settleTimerExpiry => Sys2Proof.Machine.execSettleTimerExpiry s
  | .ageTimerExpiry => Sys2Proof.Machine.execAgeTimerExpiry s
  | .encoderTransition ph => Sys2Proof.Machine.execEncoderTransition ph s
  | .illegalTransition => Sys2Proof.Machine.execIllegalTransition s
  | .motionWindowEnd => Sys2Proof.Machine.execMotionWindowEnd s
  | .contactMakes side d => Sys2Proof.Machine.execContactMakes side d s
  | .contactOpens side d => Sys2Proof.Machine.execContactOpens side d s
  | .tick => Sys2Proof.Machine.execTick s
  | .closeLimitReached side d => Sys2Proof.Machine.execCloseLimitReached side d s
  | .grantExpiry => Sys2Proof.Machine.execGrantExpiry s
  | .cycleStart => Sys2Proof.Machine.execCycleStart s
  | .referencePhaseComplete timeBase => Sys2Proof.Machine.execReferencePhaseComplete timeBase s
  | .referenceAbort => Sys2Proof.Machine.execReferenceAbort s
  | .sensorPhaseEnd count => Sys2Proof.Machine.execSensorPhaseEnd count s
  | .measureOverflow => Sys2Proof.Machine.execMeasureOverflow s
  | .periodTimerExpiry => Sys2Proof.Machine.execPeriodTimerExpiry s
  | .scanComplete c0 c1 c2 c3 => Sys2Proof.Machine.execScanComplete c0 c1 c2 c3 s

end Sys2Proof.Machine
end

