-- ==== Sys2Proof/Safety.lean ====
section
/-! DEFINITION. The safety properties of the block as predicates on its state: what statements of the certificates say is kept by every step. -/

namespace Sys2Proof.Machine

/-! ## What the statements speak of -/

/-- The state after a command that leaves the blocks at `b` and asks the interface for the effects `xs`. -/
def State.after (s : State) (b : Blocks) (xs : List Effect) : State :=
  { s with blk := b, ifc := s.ifc.applyAll s.host xs }

/-- The blocks with a port record replaced. -/
def Blocks.withPort (b : Blocks) (p : Port) (lp : LinkPort) : Blocks :=
  match p with
  | .p1 => { b with port1 := lp }
  | .p2 => { b with port2 := lp }

/-- A publication of page `p` from the blocks (R172). -/
def Blocks.shows (b : Blocks) (p : PageId) : Effect := .publish p (pageBody p b)

/-- A notice raised at the present tick. -/
def Blocks.tells (b : Blocks) (k : Notice) (d1 d2 : Word) : Effect := .notice k b.tick d1 d2

/-- Slot `n` takes a request posted with `tag` at the next visit: SCAN is 1, the slot is not TAKEN and the
tag is new (R168). -/
structure State.ready (s : State) (n : Fin 16) (tag : Byte) : Prop where
  scan : s.ifc.scan = true
  free : (s.ifc.slot n).state ≠ .taken
  fresh : tag ≠ (s.ifc.slot n).tagEcho

/-- The state after a slot command row whose request was taken and answered `r`: the request and body
stand in the slot, the blocks at `b`, and the reply comes before the effects `xs`. -/
def State.answered (s : State) (n : Fin 16) (tag : Byte) (kind : Nat) (body : List Byte) (b : Blocks)
    (r : TakeResult) (xs : List Effect) : State :=
  let h := (s.post n { req := .posted, kind := kind, tag := tag } body).host
  { s with host := h, blk := b, ifc := ((s.ifc.openSlot n tag).reply n r).applyAll h xs }

/-- The state after a command that sets the blocks to `b` and then runs the shared operation `g`. -/
def State.does (s : State) (b : Blocks) (g : Ev → Ev) : State := s.finish (g (Ev.start b))

/-- The state after a slot command row that was answered `r`, set the blocks to `b` and then ran the shared
operation `g`. -/
def State.answeredDoing (s : State) (n : Fin 16) (tag : Byte) (kind : Nat) (body : List Byte) (b : Blocks)
    (r : TakeResult) (g : Ev → Ev) : State :=
  s.answered n tag kind body (g (Ev.start b)).toBlocks r (g (Ev.start b)).allEffects

/-- The nine slot command rows: slot, tag, kind code and body (11.3). -/
def slotRow : Instr → Option (Fin 16 × Byte × Nat × List Byte)
  | .adoptProfile n tag => some (n, tag, 1, [])
  | .setCab n tag x => some (n, tag, 2, [x])
  | .startSweep n tag => some (n, tag, 3, [])
  | .send n tag cls mode lo hi flags plen payload =>
    some (n, tag, 4, [cls, mode, lo, hi, flags] ++ wordBytes plen ++ payload)
  | .door n tag action scope side lo hi number attest =>
    some (n, tag, 5, [action, scope, side, lo, hi, number, attest])
  | .heatSet n tag setpoint gain boost => some (n, tag, 6, wordBytes setpoint ++ [gain, boost])
  | .budget n tag b vlow => some (n, tag, 7, wordBytes b ++ wordBytes vlow)
  | .monitor n tag start stop mode => some (n, tag, 8, [start, stop, mode])
  | .restoreLink n tag port => some (n, tag, 9, [port])
  | _ => none

/-- Telegram `t` received on port `p` as the sweep-family rows take it. -/
def familyRows (p : Port) (t : Telegram) : List Instr :=
  [.sweepTelegram p t, .returnTelegram p t, .sweepFailTelegram p t, .confirmTelegram p t, .dissolveTelegram p t]

/-- Telegram `t` received on port `p` as the thirteen telegram rows take it. -/
def telegramRows (p : Port) (t : Telegram) : List Instr :=
  familyRows p t ++
    [.beaconTelegram p t, .breakTelegram p t, .joinTelegram p t, .doorTelegram p t, .summaryTelegram p t,
     .demandTelegram p t, .grantTelegram p t, .dataTelegram p t]

/-- The blocks count as up port `p` and telegram `t` passed header sanity with codes `k` (R14, R52). -/
def Blocks.hears (b : Blocks) (p : Port) (t : Telegram) (k : Sane) : Prop :=
  b.isUp p = true ∧ headerSanity t = some k

/-- A telegram with codes `k` that is not of the sweep family passes the checks of a car with live table `tb`
on port `p`: generation (R53) and side of arrival (R54). -/
def LiveTable.admits (tb : LiveTable) (p : Port) (t : Telegram) (k : Sane) : Prop :=
  sweepFamily k.kind = false ∧ t.hdr.gen = tb.gen ∧
    (k.mode ≠ .neighbour → sideOk tb p t.hdr.srcPos.toNat = true)

/-! ## Exchange interface -/

/-- The occupancy of each delivery queue is between 0 and 8 (R175). -/
def Iface.queuesBounded (i : Iface) : Prop := ∀ q : Fin 4, (i.queues.get q).occupancy ≤ 8

/-- Only host-written words are listed in the host's memory (R166). -/
def Memory.hostOnly (m : Memory) : Prop := ∀ c ∈ m, hostWritten c.1 = true

/-! ## Doors (R88, R100) -/

/-- A side's release is on only under one of the two conditions of R100. -/
def SideRec.releaseSafe (r : SideRec) (sensor : Bool) (m : MotionState) : Prop :=
  r.release = true →
    (sensor = true ∧ m = .stopped) ∨ (sensor = false ∧ (r.basis = .flag ∨ r.basis = .attestation))

/-- Release and close request are never on together on one side (R88). -/
def SideRec.exclusive (r : SideRec) : Prop := ¬(r.release = true ∧ r.closeReq = true)

/-- The condition of R100 on both sides, with the link between the profile's sensor and the state UNFITTED
(R82) on which it rests. -/
def Blocks.releaseSafe (b : Blocks) : Prop :=
  (b.motion.state = .unfitted ↔ b.profile.sensor = false) ∧
  ∀ s : Side, (b.doors.side s).releaseSafe b.profile.sensor b.motion.state ∧ (b.doors.side s).exclusive

/-! ## Motion counter (R75) -/

/-- The ranges of the motion record (R75). -/
def Motion.inRange (m : Motion) : Prop :=
  -32767 ≤ m.count ∧ m.count ≤ 32767 ∧ -32767 ≤ m.lastDelta ∧ m.lastDelta ≤ 32767 ∧
  m.quiet ≤ 3 ∧ m.clean ≤ 10 ∧ m.windowTicks ≤ 9

/-! ## Profile (R178) -/

/-- Every field of the profile is in its range (R178). -/
def Profile.inRange (f : Profile) : Prop := firstBadField f (heaterModeNum f.mode) = none

/-! ## Cell pool (R51) -/

/-- Cells held by the classes other than SAFETY. -/
def Blocks.plainHeld (b : Blocks) : Nat := b.occ .control + b.occ .power + b.occ .service

/-- Every class queue of a port holds telegrams of its class only (R50). -/
def LinkPort.sorted (lp : LinkPort) : Prop := ∀ c : Cls, ∀ q ∈ lp.queue c, q.cls = c

/-- The bound of R51: "The non-SAFETY occupancy plus the greater of the SAFETY occupancy and 24 therefore
never exceeds 256", with the queues sorted by class, which it rests on. -/
def Blocks.poolSafe (b : Blocks) : Prop :=
  b.plainHeld + max (b.occ .safety) Config.safetyReserve ≤ Config.poolCells ∧
    b.port1.sorted ∧ b.port2.sorted

/-! ## Consist record (R20, R21) -/

/-- The role follows the table (R20): LEAD at position 1 with a cab at its toward-lead port, FOLLOWER at
position 2..N, ALONE without a table; N in 1..32. -/
def Consist.roleFits (c : Consist) : Prop :=
  match c.role, c.table with
  | .alone, none => c.cabEnd = none
  | .follower, some t => 2 ≤ t.pos ∧ t.pos ≤ t.entries.length ∧ t.entries.length ≤ 32 ∧ c.cabEnd = none
  | .lead, some t =>
    t.pos = 1 ∧ 1 ≤ t.entries.length ∧ t.entries.length ≤ 32 ∧ c.cabEnd = some t.toward
  | _, _ => False

/-- The sweep state follows the role, and a carried sweep stands exactly while CARRYING (R20); a pending
table has at most 32 entries and one for the carried position (R34). -/
def Consist.sweepFits (c : Consist) : Prop :=
  match c.sweep, c.carry with
  | .carrying, some k =>
    c.role ≠ .lead ∧ 2 ≤ k.pos ∧ k.pos ≤ 32 ∧
      ∀ xs, c.pendingTable = some xs → k.pos ≤ xs.length ∧ xs.length ≤ 32
  | .idle, none => c.pendingTable = none
  | .awaitReturn k, none => c.role = .lead ∧ 1 ≤ k ∧ k ≤ 3 ∧ c.pendingTable = none
  | .resweepWait, none => c.role = .lead ∧ c.pendingTable = none
  | _, _ => False

/-- A consistent consist record (R20, R21). -/
def Consist.wf (c : Consist) : Prop := c.roleFits ∧ c.sweepFits

end Sys2Proof.Machine
end

