-- ==== Sys2Proof/Certificates/Slice0/Obligations.lean ====
section
/-! DEFINITION. The statements for the provers, from the numbered rules of the spec: each obligation is a def under Obligations, listed in OBLIGATIONS.json; one that has several parts is the conjunction of the parts that stand before it under Says. -/

open Sys2Proof Sys2Proof.Machine

/-! ## The step, the resets, the registers -/

/-- The block asked of in place of a fetch: a step is the front command on the queue's rest. The idle clause
is the model's choice (log entry 21). -/
def Obligations.StepRunsFront : Prop :=
  (∀ (c : Instr) (rest : List Instr) (s : State),
    step { s with pending := c :: rest } = exec c { s with pending := rest }) ∧
  ∀ s : State, s.pending = [] → step s = .next s

/-- R181: POWER_ON_RESET leaves State.reset, but for what is no reset value: the levels at the input pins, the
model's count of originations and the commands that wait (log entries 2, 3, 10). -/
def Says.PowerOnReset : Prop :=
  ∀ s : State, exec .powerOnReset s = .next { State.reset with
    blk := { State.reset.blk with
      motion := { refA := s.blk.motion.refA, refB := s.blk.motion.refB }
      doors := { left := s.blk.doors.left.afterReset, right := s.blk.doors.right.afterReset }
      origCount := s.blk.origCount }
    pending := s.pending }

/-- R181 with R173: RESET_PIN leaves the blocks as power-on reset does, keeps the host-written words, and
withholds the first publication of a page whose HOLD is set. That DOOR and HEAT are published at the release
of reset is log entry 2. -/
def Says.ResetPin : Prop :=
  ∀ s : State, ∃ t u : State, exec .resetPin s = .next t ∧ exec .powerOnReset s = .next u ∧
    t.blk = u.blk ∧ t.host = s.host ∧ t.pending = s.pending ∧
    t.ifc.scan = false ∧ t.ifc.deliver = false ∧ t.ifc.enable = 0 ∧ t.ifc.scanNext = 0 ∧
    (∀ n : Fin 16, t.ifc.slot n = {}) ∧ (∀ q : Fin 4, t.ifc.queues.get q = {}) ∧
    (∀ p : PageId, t.ifc.page p =
      if p = .door ∨ p = .heat then
        let body := if p = .door then resetDoorBody else resetHeatBody
        if pageHeld s.host p then { latest := some body, deferred := 1 }
        else { u := 1, o := decide (pageTaken s.host p ≠ 0), body := body, latest := some body }
      else {}) ∧
    t.ifc.cause =
      if (pageHeld s.host .door = false ∧ pageMasked s.host .door = true) ∨
         (pageHeld s.host .heat = false ∧ pageMasked s.host .heat = true) then 0b01000 else 0

/-- R181 with R173: what both resets leave. -/
def Obligations.Resets : Prop :=
  Says.PowerOnReset ∧ Says.ResetPin

/-- R164: a CONTROL write with bit 15 clear sets SCAN to bit 0 and DELIVER to bit 1 and nothing else,
whichever of the three rows names it (log entry 5). -/
def Says.ControlWrite : Prop :=
  ∀ (w : Word) (s : State) (c : Instr), c ∈ [Instr.scan w, .deliver w, .ifreset w] → w.getLsbD 15 = false →
    exec c s = .next { s with ifc := { s.ifc with scan := w.getLsbD 0, deliver := w.getLsbD 1 } }

/-- R182: a CONTROL write with bit 15 set restarts the interface, whichever of the three rows names it
(log entry 5). -/
def Says.InterfaceRestart : Prop :=
  ∀ (w : Word) (s : State) (c : Instr), c ∈ [Instr.ifreset w, .scan w, .deliver w] → w.getLsbD 15 = true →
    ∃ t : State, exec c s = .next t ∧ t.host = s.host ∧ t.pending = s.pending ∧
      (∀ n : Fin 16, t.ifc.slot n =
        { state := .free, tagEcho := 0, result := 0, d1 := 0, d2 := 0, d3 := 0, op := none }) ∧
      t.ifc.scanNext = 0 ∧
      (∀ p : PageId, t.ifc.page p = { s.ifc.page p with u := 0, o := false }) ∧
      (∀ q : Fin 4, t.ifc.queues.get q =
        { s.ifc.queues.get q with fill := (s.ifc.queues.get q).validDrain, lost := 0 }) ∧
      t.ifc.cause = 0 ∧ t.ifc.enable = s.ifc.enable ∧ t.ifc.intLow = false ∧
      t.ifc.scan = false ∧ t.ifc.deliver = false ∧
      t.blk = { s.blk with
        consist := { s.blk.consist with sweepSlot := none }
        monitor := { s.blk.monitor with waitSlot := none }
        relay := { s.blk.relay with waiting := s.blk.relay.waiting.map fun x => { x with slot := none } } }

/-- R164 and R182: a write to CONTROL, without and with bit 15. -/
def Obligations.ControlRegister : Prop :=
  Says.ControlWrite ∧ Says.InterfaceRestart

/-- R165: writing 1 to a cause clears it and writing 0 leaves it; CAUSE_ENABLE takes the value written; INT_N
is low exactly while a cause is set whose enable is set. Nothing else changes. -/
def Says.CauseRegisters : Prop :=
  (∀ (w : Word) (s : State), ∃ t : State, exec (.causeClear w) s = .next t ∧
    t = { s with ifc := { s.ifc with cause := t.ifc.cause } } ∧
    ∀ k < 5, t.ifc.cause.getLsbD k = (s.ifc.cause.getLsbD k && !w.getLsbD k)) ∧
  (∀ (w : Word) (s : State), ∃ t : State, exec (.causeEnableWrite w) s = .next t ∧
    t = { s with ifc := { s.ifc with enable := t.ifc.enable } } ∧
    ∀ k < 5, t.ifc.enable.getLsbD k = w.getLsbD k) ∧
  ∀ i : Iface, i.intLow = true ↔ ∃ k < 5, i.cause.getLsbD k = true ∧ i.enable.getLsbD k = true

/-- R163: what a read of each register returns, and that a write to IDENT, TICK or registers 5 to 7 changes
nothing. A write that names register 1, 2 or 3 instead is the write of that register (log entry 24). -/
def Says.RegisterWindow : Prop :=
  (∀ s : State, s.regRead 0 = 0x3201 ∧ s.regRead 4 = s.blk.tick ∧ s.regRead 5 = 0 ∧ s.regRead 6 = 0 ∧
    s.regRead 7 = 0) ∧
  (∀ (s : State) (k : Nat), k < 16 →
    (s.regRead 1).getLsbD k = ((k == 0 && s.ifc.scan) || (k == 1 && s.ifc.deliver)) ∧
    (s.regRead 2).getLsbD k = s.ifc.cause.getLsbD k ∧ (s.regRead 3).getLsbD k = s.ifc.enable.getLsbD k) ∧
  (∀ (n : BitVec 3) (w : Word) (s : State), n = 0 ∨ 4 ≤ n.toNat →
    exec (.registerWriteIgnored n w) s = .next s) ∧
  ∀ (w : Word) (s : State), exec (.registerWriteIgnored 1 w) s = exec (.scan w) s ∧
    exec (.registerWriteIgnored 2 w) s = exec (.causeClear w) s ∧
    exec (.registerWriteIgnored 3 w) s = exec (.causeEnableWrite w) s

/-- R163 and R165: the other registers, written and read. -/
def Obligations.RegistersWritten : Prop :=
  Says.CauseRegisters ∧ Says.RegisterWindow

/-! ## Exchange memory -/

/-- R166: a bus write to a host-written word stores the value there and nowhere else; one to any other word
changes nothing. Only a write to a drain word or a HOLD word does anything besides. -/
def Obligations.MemoryWrite : Prop :=
  ∀ (a : BitVec 14) (w : Word) (s : State), s.host.wf = true →
    ∃ t : State, exec (.memoryWrite a w) s = .next t ∧ t.blk = s.blk ∧ t.pending = s.pending ∧
      t.host.wf = true ∧
      (hostWritten a.toNat = false → t = s) ∧
      (∀ b : BitVec 14, hostWritten b.toNat = true →
        t.busRead b = if b = a then w else s.busRead b) ∧
      ((∀ q : Fin 4, a.toNat ≠ 0x90 + q.val) → (∀ p : Fin 6, a.toNat ≠ 0x81 + 2 * p.val) → t.ifc = s.ifc)

/-- R176: the examination of a drain write, by its own row or as a memory write. -/
def Obligations.DrainWrite : Prop :=
  ∀ (q : Fin 4) (w : Word) (s : State) (c : Instr),
    c ∈ [Instr.drainWrite q w, .memoryWrite (BitVec.ofNat 14 (0x90 + q.val)) w] →
    let d : BitVec 4 := w.setWidth 4
    let x := s.ifc.queues.get q
    exec c s = .next { s with
      host := s.host.write (0x90 + q.val) w
      ifc := if (x.fill - d).toNat ≤ 8 then
          { s.ifc with queues := s.ifc.queues.set q { x with validDrain := d } }
        else { s.ifc with cause := s.ifc.cause ||| 0b10000 } }

/-- R173: what a publication asked for while HOLD is set leaves, and what each write to the HOLD word does, by
its own row or as a memory write. -/
def Says.PageHold : Prop :=
  (∀ (h : Memory) (i : Iface) (p : PageId) (c : List Word), pageHeld h p = true →
    i.apply h (.publish p c) =
      i.setPage p { i.page p with latest := some c, deferred := satInc (i.page p).deferred }) ∧
  ∀ (p : PageId) (w : Word) (s : State) (c : Instr), s.host.wf = true →
    c ∈ [Instr.holdSet p w, .holdRelease p w,
         .memoryWrite (BitVec.ofNat 14 (holdAddr (pageIdx p).val)) w] →
    let g := s.ifc.page p
    let h := s.host.write (holdAddr (pageIdx p).val) w
    ((w.getLsbD 0 = true ∨ pageHeld s.host p = false ∨ g.deferred = 0) →
      exec c s = .next { s with host := h }) ∧
    (∀ body, w.getLsbD 0 = false → pageHeld s.host p = true → g.deferred ≠ 0 → g.latest = some body →
      exec c s = .next { s with
        host := h
        ifc := { s.ifc.setPage p
                  { u := if g.u = 65535 then 1 else g.u + 1
                    o := decide (2 ≤ g.deferred.toNat ∨ pageTaken s.host p ≠ g.u)
                    body := body, latest := some body, deferred := 0 } with
                 cause := if pageMasked s.host p then s.ifc.cause ||| 0b01000 else s.ifc.cause } })

/-- R172 and R174: a publication with HOLD clear. -/
def Says.PagePublication : Prop :=
  ∀ (h : Memory) (i : Iface) (p : PageId) (c : List Word), pageHeld h p = false →
    let g := i.page p
    i.apply h (.publish p c) =
      { i.setPage p { u := if g.u = 65535 then 1 else g.u + 1
                      o := decide (pageTaken h p ≠ g.u)
                      body := c, latest := some c, deferred := g.deferred } with
        cause := if pageMasked h p then i.cause ||| 0b01000 else i.cause }

/-- R174: a publication sets PAGE exactly when the page's bit of the mask is 1, direct or deferred. -/
def Says.PageCauseByMask : Prop :=
  ∀ (h : Memory) (i : Iface) (p : PageId) (c : List Word),
    (pageHeld h p = false →
      (i.apply h (.publish p c)).cause =
        if (h.read 0x98).getLsbD (pageIdx p).val then i.cause ||| 0b01000 else i.cause) ∧
    ((i.page p).deferred ≠ 0 →
      (i.releasePage h p).cause =
        if (h.read 0x98).getLsbD (pageIdx p).val then i.cause ||| 0b01000 else i.cause)

/-- R172 with 11.2 and 11.5: what a read of a page returns: U, O, then the body; nothing stands above the pages. -/
def Says.PageWords : Prop :=
  ∀ s : State,
    (∀ p : PageId,
      let g := s.ifc.page p
      let at' (j : Nat) : Word := s.busRead (BitVec.ofNat 14 (0x3200 + 512 * (pageIdx p).val + j))
      at' 0 = g.u ∧ at' 1 = (if g.o then 1 else 0) ∧ ∀ j < 510, at' (2 + j) = g.body.getD j 0) ∧
    ∀ a, 0x3E00 ≤ a → a < 0x4000 → s.busRead (BitVec.ofNat 14 a) = 0

/-- 11.8 and 11.5: the codes that items of the pages show: those assigned, and for the others the order of the rule
that owns the item, from 0 (none is 0 in an outcome or reason). -/
def Says.PageCodes : Prop :=
  [LinkState.dead, .settling, .up, .faulted].map linkStateNum = [0, 1, 2, 3] ∧
  [Role.alone, .follower, .lead].map roleNum = [0, 1, 2] ∧
  [SweepState.idle, .carrying, .awaitReturn 1, .resweepWait].map sweepStateNum = [0, 1, 2, 3] ∧
  [FailReason.tooLong, .inconsistent, .linkLost, .noReturn, .contestLost, .deactivated].map failReasonNum =
    [1, 2, 3, 4, 5, 6] ∧
  [MotionState.unfitted, .unknown, .stopped, .moving, .faulted].map motionStateNum = [0, 1, 2, 3, 4] ∧
  [TrainDir.forward, .reverse, .still, .notShown].map trainDirNum = [0, 1, 2, 3] ∧
  [DoorState.closed, .opened, .closing, .late, .forced, .isolated].map doorStateNum = [0, 1, 2, 3, 4, 5] ∧
  [Basis.sensor, .flag, .attestation, .absent].map basisNum = [0, 1, 2, 3] ∧
  [DoorResult.closed, .opened, .unknown .noSummary].map resultNum = [0, 1, 2] ∧
  [DoorResult.unknown .noSummary, .unknown .short, .unknown .stale].map unknownReasonNum = [0, 1, 2] ∧
  [ChanState.noCode, .valid, .stale, .unavailable, .unused].map chanStateNum = [0, 1, 2, 3, 4] ∧
  [MeasFault.absent, .reference, .overflow, .sensor].map measFaultNum = [0, 1, 2, 3] ∧
  [DemandBasis.code, .standby].map demandBasisNum = [0, 1] ∧
  [OtCause.absent, .code, .unavailable].map otCauseNum = [0, 1, 2] ∧
  [GrantStatus.absent, .fresh, .expired].map grantStatusNum = [0, 1, 2] ∧
  [HeaterMode.quad, .dual].map heaterModeNum = [0, 1] ∧
  [DutyBasis.grant, .standby, .overtemp].map dutyBasisNum = [0, 1, 2] ∧
  [LastPeriod.computed .fit, .skippedUnset].map lastPeriodNum = [0, 1] ∧
  [GrantCase.fit, .scaled, .shortfall].map (fun c => lastCaseNum (.computed c)) = [0, 1, 2] ∧
  [GrantOutcome.sent, .localOnly, .linkDown, .refused].map (fun x => grantOutcomeNum (some x)) = [0, 1, 2, 3] ∧
  [MonMode.off, .once, .continuous, .onBeacon].map monModeNum = [0, 1, 2, 3] ∧
  (∀ c, tlvWord (.code c) = c.setWidth 16) ∧ tlvWord .absent = 0xFFFF ∧ tlvWord .unusable = 0xFFFE

/-- R18, R85 and R137 with 11.5: the bodies of the LINK, MOTION and MONITOR pages, from word 2. -/
def Says.LinkMotionMonitorPages : Prop :=
  ∀ b : Blocks,
    let half (i : BitVec 32) : List Word := [i.setWidth 16, (i >>> 16).setWidth 16]
    let port (lp : LinkPort) : List Word :=
      [word (linkStateNum lp.state)] ++ half lp.nbrId ++
        [lp.nbrEnd.setWidth 16, word lp.settle, lp.lastErr, word lp.badRun, word lp.cleanRun,
         lp.drops.x0, lp.drops.x1, lp.drops.x2, lp.drops.x3]
    let m := b.motion
    let chan (c : SupplyChan) : List Word := [c.code.setWidth 16, flagWord c.measured, c.age]
    let v := b.monitor
    pageBody .link b = port b.port1 ++ port b.port2 ∧
    pageBody .motion b =
      [word (motionStateNum m.state), BitVec.ofInt 16 m.lastDelta, m.lastIllegal, flagWord m.lastSaturated] ++
      half m.odometer ++ [word (trainDirNum m.dir), word m.quiet, word m.clean, word b.profile.z, b.tick] ∧
    pageBody .monitor b =
      [word (monModeNum v.mode), word v.start, word v.stop, v.scanNo] ++
      chan v.chans.x0 ++ chan v.chans.x1 ++ chan v.chans.x2 ++ chan v.chans.x3 ++ [word b.draw]

/-- R48 with 11.5: the body of the CONSIST page: words 2 to 22, a word 0, and from word 24 the entries. That outcome
and reason share one word is log entry 12. -/
def Says.ConsistPage : Prop :=
  ∀ b : Blocks,
    let c := b.consist
    let half (i : BitVec 32) : List Word := [i.setWidth 16, (i >>> 16).setWidth 16]
    let outcome : List Word := match c.outcome with
      | .absent => [0, 0]
      | .formed g n => [hiLo 1 0, hiLo g.toNat n]
      | .failed why _ => [hiLo 2 (failReasonNum why), 0]
    let table : List Word := match c.table with
      | some t => [1, t.gen.setWidth 16, word t.entries.length, word t.pos, word (portNum t.toward)] ++ half t.leadId
      | none => [0, 0, 0, 0, 0, 0, 0]
    let carried : List Word := match c.carry with
      | some k => half k.leadId ++ [k.number.setWidth 16, word k.pos, word (c.pendingTable.getD []).length]
      | none => [0, 0, 0, 0, 0]
    let entry (x : SweepEntry) : List Word := half x.id ++
      [packWord x.towardEnd x.doorsLeft, packWord x.doorsRight x.flags, packWord x.r x.f, packWord x.s 0]
    let cab := match c.cabEnd with | none => 0 | some p => portNum p
    let attempt := match c.sweep with | .awaitReturn k => k | _ => 0
    pageBody .consist b =
      [word (roleNum c.role), word cab, word (sweepStateNum c.sweep), word attempt] ++ outcome ++ table ++
      [c.lastGen.setWidth 16, c.beaconNo, flagWord c.lastStationary] ++ carried ++ [0] ++
      (match c.table with | some t => t.entries.flatMap entry | none => [])

/-- R108 and R121 with 11.5: the body of the DOOR page: the car's doors in words 2 to 45, four words 0, and from word
50 the summary fields, inactive outside LEAD. The numbers of on, set and yes are log entry 13, the inactive N log
entry 12. -/
def Says.DoorPage : Prop :=
  ∀ b : Blocks,
    let f := b.profile
    let side (r : SideRec) (n : Nat) : List Word :=
      [word n, flagWord r.release, flagWord r.closeReq, word (basisNum r.basis)]
    let door (r : SideRec) (n : Nat) (d : Fin 4) : List Word :=
      let y := r.doors.get d
      if d.val < n then [word (doorStateNum y.state), if y.contact then 0 else 1, y.timer, y.lastClose]
      else [7, 0, 0, 0]
    let doors (r : SideRec) (n : Nat) : List Word := door r n 0 ++ door r n 1 ++ door r n 2 ++ door r n 3
    let trainSides : List Word := match b.consist.table with
      | none => [0, 0]
      | some t => if t.toward = .p1 then [1, 2] else [2, 1]
    let lead := b.consist.role = .lead
    let j := b.summary
    let t := j.total
    pageBody .door b =
      side b.doors.left f.doorsLeft ++ side b.doors.right f.doorsRight ++ trainSides ++
      doors b.doors.left f.doorsLeft ++ doors b.doors.right f.doorsRight ++
      [flagWord b.doors.latch, word (f.closeLimit * 10)] ++ [0, 0, 0, 0] ++
      [if lead then 1 else 0, word (resultNum j.result), word (unknownReasonNum j.result),
       if lead then word b.cars else 0, t.beacon, word t.covered, word t.openCount, word t.faulted,
       word t.refused, word t.list.length] ++
      padWords 4 (t.list.map word) ++
      [flagWord t.more, j.tick, if j.judged then b.tick - j.tick else 0, j.late, j.malformed]

/-- R136, R161 and R151 with 11.5: the body of the HEAT page: measurement and heater fields up to word 63, from word
64 the allocation fields of the lead (elsewhere the inactive mark and the budget), from word 96 the entries. The
four words of the on-counts, and which byte of a word holds the period, are log entry 12. -/
def Says.HeatPage : Prop :=
  ∀ b : Blocks,
    let half (i : BitVec 32) : List Word := [i.setWidth 16, (i >>> 16).setWidth 16]
    let v := b.converter
    let d := b.demand
    let h := b.heater
    let a := b.alloc
    let chan (c : Channel) : List Word := [word (chanStateNum c.state), c.code, word c.run, word (measFaultNum c.fault)]
    let own : List Word :=
      half (v.tref.setWidth 32) ++ [if v.refGood then 0 else 1, v.refFaults] ++ chan v.chA ++ chan v.chB ++
      [d.setpoint, d.gain.setWidth 16, d.boost.setWidth 16, d.d.setWidth 16, word (demandBasisNum d.basis),
       flagWord d.boostOn, flagWord h.latch, word (otCauseNum h.latchCause)] ++
      [word (grantStatusNum h.status), h.g.setWidth 16, h.number, h.flags.setWidth 16, h.age,
       flagWord h.latch, word (otCauseNum h.latchCause), flagWord h.cut,
       word (heaterModeNum h.mode), word h.target, word (dutyBasisNum h.basis)] ++
      padWords 4 (h.onCounts.map word) ++
      [word h.offset, word h.offsetPos, word h.offsetCars, h.cycles, h.slot.setWidth 16, h.malformed]
    let budget : List Word := [flagWord a.budgetSet, word a.b, word a.vlow]
    let es := a.table.getD []
    let gs := a.grants.getD []
    let granted := ((es.zip gs).map fun x => x.2.g * x.1.r).sum / 256
    let measured := ((es.filter fun x => x.demanded).map fun x => x.draw).sum
    (b.consist.role ≠ .lead → pageBody .heat b = padWords 62 own ++ [0] ++ budget) ∧
    (b.consist.role = .lead → ∃ rows : List Word,
      pageBody .heat b = padWords 62 own ++ padWords 32 ([1] ++ budget ++
        [hiLo (lastPeriodNum a.lastPeriod) (lastCaseNum a.lastPeriod), a.periodTick, a.number, word a.bEff,
         tlvWord a.tlv, flagWord a.derateUnavailable] ++
        half (BitVec.ofNat 32 a.bs) ++ half (BitVec.ofNat 32 a.dSum) ++ half (BitVec.ofNat 32 a.fSum) ++
        [word a.k, word (grantOutcomeNum a.outcome), word granted, word measured, a.malformed]) ++ rows ∧
      rows.length = 12 * es.length ∧
      ∀ (i : Nat) (x : DemandEntry), es[i]? = some x → (rows.drop (12 * i)).take 12 =
        [word x.r, word x.f, word x.s, flagWord x.demanded, word x.d, word x.draw, x.flags.setWidth 16,
         word x.age, if x.r = 0 then 0 else 1] ++
        match gs[i]? with | some l => [word l.dUsed, word l.e, word l.g] | none => [0, 0, 0])

/-- R172 to R174: publication of a page, HOLD, the cause PAGE, and what the host reads of each page. -/
def Obligations.Pages : Prop :=
  Says.PageHold ∧ Says.PagePublication ∧ Says.PageCauseByMask ∧ Says.PageWords ∧ Says.PageCodes ∧
    Says.LinkMotionMonitorPages ∧ Says.ConsistPage ∧ Says.DoorPage ∧ Says.HeatPage

/-- R175 and R177: delivery of an item, be it a notice or a telegram handed off. -/
def Says.ItemDelivered : Prop :=
  ∀ (h : Memory) (i : Iface) (x : Effect) (m : Word) (e : Entry),
    ((∃ k tick d1 d2, x = .notice k tick d1 d2 ∧ m = h.read (0xC0 + noticeNum k) ∧
        e = .notice (byte (noticeNum k)) tick d1 d2) ∨
     ∃ port tick t, x = .offer port tick t ∧ m = h.read (0xA0 + t.hdr.kind.toNat) ∧
        e = .telegram port tick t) →
    (i.deliver = false ∨ 4 ≤ m.toNat → i.apply h x = i) ∧
    ∀ k : Fin 4, i.deliver = true → m.toNat = k.val →
      let q := i.queues.get k
      ((q.fill - q.validDrain).toNat < 8 →
        i.apply h x = { i with
          queues := i.queues.set k { q with
            entries := q.entries.set (entryIdx q.fill) e
            fill := q.fill + 1 }
          cause := if q.fill = q.validDrain then i.cause ||| 0b00010 else i.cause }) ∧
      ((q.fill - q.validDrain).toNat = 8 →
        i.apply h x = { i with
          queues := i.queues.set k { q with lost := if q.lost = 65535 then 65535 else q.lost + 1 }
          cause := i.cause ||| 0b00100 })

/-- R184 with 11.2: what a read of the fill and lost words and of the delivery entries returns. -/
def Says.DeliveryWords : Prop :=
  ∀ (s : State) (q : Fin 4),
    let x := s.ifc.queues.get q
    s.busRead (BitVec.ofNat 14 (0x100 + q.val)) = x.fill.setWidth 16 ∧
    s.busRead (BitVec.ofNat 14 (0x104 + q.val)) = x.lost ∧
    (∀ a, 0x108 ≤ a → a < 0x200 → s.busRead (BitVec.ofNat 14 a) = 0) ∧
    ∀ n : Fin 8,
      let at' (j : Nat) : Word := s.busRead (BitVec.ofNat 14 (0x1200 + 2048 * q.val + 256 * n.val + j))
      (x.entries[n] = .blank → ∀ j < 256, at' j = 0) ∧
      (∀ code tick d1 d2, x.entries[n] = .notice code tick d1 d2 →
        at' 0 = word (0x2000 + code.toNat) ∧ at' 1 = tick ∧ at' 2 = d1 ∧ at' 3 = d2 ∧
        ∀ j < 256, 4 ≤ j → at' j = 0) ∧
      ∀ port tick t, x.entries[n] = .telegram port tick t →
        at' 0 = word (0x1000 + port) ∧ at' 1 = tick ∧
        (∀ j < 8, at' (2 + j) = [packWord t.hdr.kind t.hdr.classMode, packWord t.hdr.hops t.hdr.gen,
          packWord t.hdr.srcPos t.hdr.dstLo, packWord t.hdr.dstHi t.hdr.flags, t.hdr.seq, t.hdr.plen,
          t.hdr.srcId.setWidth 16, (t.hdr.srcId >>> 16).setWidth 16].getD j 0) ∧
        ∀ j < 246, at' (10 + j) = packWord (t.payload.getD (2 * j) 0) (t.payload.getD (2 * j + 1) 0)

/-- R175, R177 and R184: delivery of an item, and what the host reads of it. -/
def Obligations.Delivery : Prop :=
  Says.ItemDelivered ∧ Says.DeliveryWords

/-! ## Command slots -/

/-- A slot command row writes the body, the length and the request, in the slot's own words only; while the
slot does not take it, nothing else happens (R167, R168; that the row is the post and one visit is log entry
4). -/
def Says.SlotRowPosts : Prop :=
  ∀ (c : Instr) (n : Fin 16) (tag : Byte) (kind : Nat) (body : List Byte) (s : State),
    slotRow c = some (n, tag, kind, body) → s.host.wf = true →
    ∃ t : State, exec c s = .next t ∧ t.pending = s.pending ∧
      t.host.read (slotAddr n 0) = word (0x1000 + 256 * kind + tag.toNat) ∧
      t.host.read (slotAddr n 1) = word body.length ∧
      (∀ a, (∀ j < 256, a ≠ slotAddr n j) → t.host.read a = s.host.read a) ∧
      t.host.read (slotAddr n 2) = s.host.read (slotAddr n 2) ∧
      t.host.read (slotAddr n 3) = s.host.read (slotAddr n 3) ∧
      (∀ j < 240, t.host.read (slotAddr n (16 + j)) =
        (packBytes (body.take 480)).getD j (s.host.read (slotAddr n (16 + j)))) ∧
      (¬ s.ready n tag → t.blk = s.blk ∧ t.ifc = s.ifc)

/-- R168: the visit of the scanner, and the pass. -/
def Says.ScannerVisit : Prop :=
  (∀ (s : State) (n : Fin 16) (r : Request) (len : Nat) (body : List Byte),
    let x := s.ifc.slot n
    (r.req = .idle → s.visit n r len body =
      if x.state = .done ∨ x.state = .refused ∨ x.state = .abandoned then
        { s with ifc := s.ifc.setSlot n { x with state := .free } } else s) ∧
    (r.req = .posted → s.visit n r len body =
      if r.tag ≠ x.tagEcho ∧ x.state ≠ .taken then s.takeSlot n r.tag r.kind len body else s) ∧
    (r.req = .abandon → s.visit n r len body =
      if r.tag = x.tagEcho ∧ x.state = .taken then s.abandonSlot n else s)) ∧
  ∀ s : State,
    (s.ifc.scan = false → exec .scanPass s = .next s) ∧
    (s.ifc.scan = true → exec .scanPass s = .next
      ((List.range 16).foldl (fun t k => t.visitSlot (s.ifc.scanNext + Fin.ofNat 16 k)) s))

/-- R167 and R168: a slot command posted, and the visits of the scanner. -/
def Obligations.SlotPosting : Prop :=
  Says.SlotRowPosts ∧ Says.ScannerVisit

/-- R169 and R170: taking a slot clears the reply and sets the echo, the checks of kind and length come first,
the next pass starts after it, and the reply is written with its final state. -/
def Says.SlotTake : Prop :=
  (∀ (s : State) (n : Fin 16) (tag : Byte) (kind len : Nat) (body : List Byte),
    (kind = 0 ∨ 10 ≤ kind → s.takeSlot n tag kind len body =
      { s with ifc := (s.ifc.openSlot n tag).reply n (.no .badKind) }) ∧
    (1 ≤ kind → kind ≤ 9 →
      480 < len ∨ (body.take len).length < [0, 0, 1, 0, 7, 7, 4, 4, 3, 1].getD kind 0 →
      s.takeSlot n tag kind len body =
        { s with ifc := (s.ifc.openSlot n tag).reply n (.no .badField) })) ∧
  ∀ (i : Iface) (n : Fin 16) (tag : Byte),
    (∀ d1 d2 d3, (i.openSlot n tag).reply n (.done d1 d2 d3) =
      { i.setSlot n { state := .done, tagEcho := tag, result := 0, d1, d2, d3, op := none } with
        scanNext := n + 1, cause := i.cause ||| 0b00001 }) ∧
    (∀ code d1 d2, (i.openSlot n tag).reply n (.refused code d1 d2) =
      { i.setSlot n { state := .refused, tagEcho := tag, result := word (resultCodeNum code), d1, d2
                      d3 := 0, op := none } with
        scanNext := n + 1, cause := i.cause ||| 0b00001 }) ∧
    ∀ op d1, (i.openSlot n tag).reply n (.taken op d1) =
      { i.setSlot n { state := .taken, tagEcho := tag, result := 0, d1, d2 := 0, d3 := 0, op := some op } with
        scanNext := n + 1 }

/-- R170: the completion of a slot's operation. -/
def Says.SlotCompletes : Prop :=
  ∀ (h : Memory) (i : Iface) (n : Fin 16) (d1 d2 d3 : Word),
    i.apply h (.complete n d1 d2 d3) =
      { i.setSlot n { i.slot n with state := .done, result := 0, d1, d2, d3, op := none } with
        cause := i.cause ||| 0b00001 }

/-- R167 with 11.3: what a read of a slot's part-written words returns. -/
def Says.SlotWords : Prop :=
  ∀ (s : State) (n : Fin 16),
    let x := s.ifc.slot n
    let at' (j : Nat) : Word := s.busRead (BitVec.ofNat 14 (0x200 + 256 * n.val + j))
    let code := match x.state with | .free => 0 | .taken => 1 | .done => 2 | .refused => 3 | .abandoned => 4
    at' 4 = word (256 * code + x.tagEcho.toNat) ∧ at' 5 = x.result ∧ at' 6 = x.d1 ∧ at' 7 = x.d2 ∧ at' 8 = x.d3 ∧
      ∀ j < 16, 9 ≤ j → at' j = 0

/-- R169 and R170: a slot taken, its reply, the completion of its operation, and what the host reads. -/
def Obligations.SlotReply : Prop :=
  Says.SlotTake ∧ Says.SlotCompletes ∧ Says.SlotWords

/-! ## Commands of the heating blocks, the monitor and the ports -/

/-- R129 with R127: HEAT_SET refused or taken, and the demand it forms. -/
def Obligations.HeatSet : Prop :=
  ∀ (n : Fin 16) (tag : Byte) (setpoint : Word) (gain boost : Byte) (s : State), s.ready n tag →
    let body := wordBytes setpoint ++ [gain, boost]
    let a := s.blk.converter.chA
    let hot := a.state = .valid ∨ a.state = .stale
    let doorOpen := s.blk.carDoors.any fun x => x.state == .opened || x.state == .forced
    let base := (setpoint.toNat - a.code.toNat) * gain.toNat / 256
    let d : Byte := if hot then byte (min 255 (base + if doorOpen then boost.toNat else 0))
      else byte s.blk.profile.s
    (64 < boost.toNat → exec (.heatSet n tag setpoint gain boost) s =
      .next (s.answered n tag 6 body s.blk (.no .badField) [])) ∧
    (boost.toNat ≤ 64 → exec (.heatSet n tag setpoint gain boost) s =
      .next (s.answered n tag 6 body
        { s.blk with demand := { setpoint, gain, boost, d, basis := if hot then .code else .standby
                                 boostOn := doorOpen } }
        (.done (d.setWidth 16) 0 0) []))

/-- R147: BUDGET refused or taken, in every role. -/
def Obligations.Budget : Prop :=
  ∀ (n : Fin 16) (tag : Byte) (b vlow : Word) (s : State), s.ready n tag →
    let body := wordBytes b ++ wordBytes vlow
    (8000 < b.toNat ∨ 4095 < vlow.toNat → exec (.budget n tag b vlow) s =
      .next (s.answered n tag 7 body s.blk (.no .badField) [])) ∧
    (b.toNat ≤ 8000 → vlow.toNat ≤ 4095 → exec (.budget n tag b vlow) s =
      .next (s.answered n tag 7 body
        { s.blk with alloc := { s.blk.alloc with budgetSet := true, b := b.toNat, vlow := vlow.toNat } }
        (.done b 0 0) []))

/-- R17 with R10, R16 and R18: RESTORE_LINK. -/
def Obligations.RestoreLink : Prop :=
  ∀ (n : Fin 16) (tag port : Byte) (s : State), s.ready n tag →
    (port.toNat ≠ 1 → port.toNat ≠ 2 → exec (.restoreLink n tag port) s =
      .next (s.answered n tag 9 [port] s.blk (.no .badField) [])) ∧
    ∀ p : Port, port.toNat = portNum p →
      ((s.blk.port p).state ≠ .faulted → exec (.restoreLink n tag port) s =
        .next (s.answered n tag 9 [port] s.blk (.no .notFaulted) [])) ∧
      ((s.blk.port p).state = .faulted →
        let b := s.blk.withPort p { s.blk.port p with
          state := .settling, nbrId := 0, nbrEnd := 0, settle := 0, silence := .running s.blk.tick
          cleanRun := 0 }
        exec (.restoreLink n tag port) s =
          .next (s.answered n tag 9 [port] b (.done (word (portNum p)) 0 0)
            [b.tells .linkChange (hiLo (portNum p) 1) (hiLo 3 7), b.shows .link]))

/-- R133: MONITOR. An accepted command abandons a scan, completes a waiting ONCE slot SUPERSEDED (code 2),
takes the range and mode, and starts what the mode starts; OFF publishes the page. -/
def Obligations.MonitorCommand : Prop :=
  ∀ (n : Fin 16) (tag start stop mode : Byte) (s : State), s.ready n tag →
    let m := s.blk.monitor
    let body := [start, stop, mode]
    let old : List Effect := match m.waitSlot with | some k => [.complete k 2 0 0] | none => []
    let took (mode : MonMode) (scan : ScanState) (period : Timer) (slot : Option (Fin 16)) : Blocks :=
      { s.blk with monitor := { m with start := start.toNat, stop := stop.toNat, mode := mode, scan := scan
                                       period := period, waitSlot := slot } }
    (3 < start.toNat ∨ 3 < stop.toNat ∨ stop.toNat < start.toNat ∨ 3 < mode.toNat →
      exec (.monitor n tag start stop mode) s = .next (s.answered n tag 8 body s.blk (.no .badField) [])) ∧
    (start.toNat ≤ stop.toNat → stop.toNat ≤ 3 →
      (mode.toNat = 0 → exec (.monitor n tag start stop mode) s =
        let b := took .off .idle .stopped none
        .next (s.answered n tag 8 body b .ok (old ++ [b.shows .monitor]))) ∧
      (mode.toNat = 1 → exec (.monitor n tag start stop mode) s =
        .next (s.answered n tag 8 body (took .once (.scanning start.toNat []) .stopped (some n))
          (.taken .once 0) old)) ∧
      (mode.toNat = 2 → exec (.monitor n tag start stop mode) s =
        .next (s.answered n tag 8 body
          (took .continuous (.scanning start.toNat []) (.running s.blk.tick) none) .ok old)) ∧
      (mode.toNat = 3 → exec (.monitor n tag start stop mode) s =
        .next (s.answered n tag 8 body (took .onBeacon .idle .stopped none) .ok old)))

/-! ## Commands of the consist block -/

/-- R24: the refusals of SET_CAB in their order, and the end already active. -/
def Says.SetCabRefused : Prop :=
  ∀ (n : Fin 16) (tag x : Byte) (s : State), s.ready n tag →
    let f := s.blk.profile
    let c := s.blk.consist
    let answer (r : TakeResult) := Host.Outcome.next (s.answered n tag 2 [x] s.blk r [])
    (3 ≤ x.toNat → exec (.setCab n tag x) s = answer (.no .badField)) ∧
    ∀ p : Port, x.toNat = portNum p →
      let hasCab := match p with | .p1 => f.cab1 | .p2 => f.cab2
      let st := (s.blk.port p).state
      (c.cabEnd = some p → exec (.setCab n tag x) s = answer .ok) ∧
      (c.cabEnd ≠ some p →
        (f.identity = 0 → exec (.setCab n tag x) s = answer (.no .unprofiled)) ∧
        (f.identity ≠ 0 →
          (hasCab = false → exec (.setCab n tag x) s = answer (.no .cabNotFitted)) ∧
          (hasCab = true →
            (st = .up ∨ st = .settling → exec (.setCab n tag x) s = answer (.no .cabEndCoupled)) ∧
            (st = .dead ∨ st = .faulted → c.cabEnd ≠ none →
              exec (.setCab n tag x) s = answer (.no .cabActive)))))

/-- R24: SET_CAB activates a cab. The table of the car alone is installed by the operation that InstallAtLead
states; the sweep or the beacons that follow are those of SweepAttempt and BeaconSent. That the beacon number stands
is log entry 40. -/
def Says.SetCabActivates : Prop :=
  ∀ (n : Fin 16) (tag x : Byte) (s : State) (p : Port), s.ready n tag → x.toNat = portNum p →
    s.blk.consist.cabEnd = none → s.blk.profile.identity ≠ 0 →
    (match p with | .p1 => s.blk.profile.cab1 | .p2 => s.blk.profile.cab2) = true →
    (s.blk.port p).state = .dead ∨ (s.blk.port p).state = .faulted →
    let c := s.blk.consist
    let g : Byte := if c.lastGen = 255 then 1 else c.lastGen + 1
    let b : Blocks := { s.blk with consist := { c with
      cabEnd := some p, role := .lead, watchT := .stopped, carry := none, pendingTable := none
      carryT := .stopped, sweep := if c.sweep = .carrying then .idle else c.sweep } }
    exec (.setCab n tag x) s = .next (s.answeredDoing n tag 2 [x] b (.done (g.setWidth 16) 0 0) fun e =>
      let e1 := ((e.installLead p [b.ownEntry p]).noteInstalled).publishNow .consist
      if b.isUp (portOther p) then e1.beginAttempt p 1 else e1.startBeacons)

/-- R25: SET_CAB(NONE), without and with an active cab. -/
def Says.SetCabNone : Prop :=
  ∀ (n : Fin 16) (tag : Byte) (s : State), s.ready n tag →
    (s.blk.consist.cabEnd = none → exec (.setCab n tag 0) s =
      .next (s.answered n tag 2 [0] s.blk .ok [])) ∧
    ∀ (p : Port) (t : LiveTable), s.blk.consist.cabEnd = some p → s.blk.consist.table = some t →
      exec (.setCab n tag 0) s = .next (s.answeredDoing n tag 2 [0] s.blk .ok fun e =>
        let e1 := e.sendFamily (portOther p) .dissolve [t.gen]
        let e2 := match e.consist.sweep with
          | .awaitReturn _ => e1.endSweep (.failed .deactivated 1)
          | _ => e1
        e2.leaveLead.notice .consistLost (hiLo 1 t.gen.toNat) (word t.pos))

/-- R24 to R26: SET_CAB refused, activating an end, deactivating. -/
def Obligations.SetCab : Prop :=
  Says.SetCabRefused ∧ Says.SetCabActivates ∧ Says.SetCabNone

/-- R27: START_SWEEP refused, or taken with the sweep of SweepAttempt. -/
def Obligations.StartSweep : Prop :=
  ∀ (n : Fin 16) (tag : Byte) (s : State), s.ready n tag →
    let c := s.blk.consist
    (c.role ≠ .lead → exec (.startSweep n tag) s = .next (s.answered n tag 3 [] s.blk (.no .notLead) [])) ∧
    ∀ t : LiveTable, c.role = .lead → c.table = some t →
      (∀ k, c.sweep = .awaitReturn k → exec (.startSweep n tag) s =
        .next (s.answered n tag 3 [] s.blk (.no .sweepInProgress) [])) ∧
      (c.sweep = .idle ∨ c.sweep = .resweepWait → exec (.startSweep n tag) s =
        .next (s.answeredDoing n tag 3 [] { s.blk with consist := { c with sweepSlot := some n } }
          (.taken .sweep 0) fun e => e.beginAttempt t.toward 1))

/-- R171 with R28 and R72: ABANDON, while SCAN is 1. Its row writes the request word with the kind kept and one
visit follows (log entry 4). The low byte 0 of a SEND's second detail word is log entry 15, the place of the page
among R28's steps log entry 7, and the mark by which a SEND is known log entry 34. -/
def Says.AbandonRow : Prop :=
  ∀ (n : Fin 16) (tag : Byte) (s : State), s.ifc.scan = true →
    let x := s.ifc.slot n
    let w := (s.host.read (slotAddr n 0)).toNat / 256 % 16
    let s1 := { s with host := s.host.write (slotAddr n 0) (word (0x2000 + 256 * w + tag.toNat)) }
    let ended (d1 d2 : Word) : Iface :=
      { s.ifc.setSlot n { x with state := .abandoned, result := 0, d1, d2, d3 := 0, op := none } with
        cause := s.ifc.cause ||| 0b00001 }
    (tag ≠ x.tagEcho ∨ x.state ≠ .taken ∨ x.op = some .once → exec (.abandon n tag) s = .next s1) ∧
    (tag = x.tagEcho → x.state = .taken →
      (x.op = some .sweep →
        (∀ k, s.blk.consist.sweep = .awaitReturn k → exec (.abandon n tag) s =
          .next ({ s1 with ifc := ended 0 (hiLo s.blk.liveGen.toNat s.blk.cars) }.does
            { s.blk with consist := { s.blk.consist with
                returnT := .stopped, sweep := .idle, sweepSlot := none } }
            fun e => (e.publishNow .consist).startBeacons)) ∧
        ((∀ k, s.blk.consist.sweep ≠ .awaitReturn k) → exec (.abandon n tag) s = .next s1)) ∧
      ∀ q, x.op = some (.send q) →
        (s.blk.port1.hasQueued q = false → s.blk.port2.hasQueued q = false →
          exec (.abandon n tag) s = .next s1) ∧
        (s.blk.relay.waiting.find? (fun y => y.id = q) = none → exec (.abandon n tag) s = .next s1) ∧
        ∀ v, s.blk.relay.waiting.find? (fun y => y.id = q) = some v →
          s.blk.port1.hasQueued q = true ∨ s.blk.port2.hasQueued q = true →
          exec (.abandon n tag) s = .next ({ s1 with ifc := ended v.seq (hiLo v.sent 0) }.after
            { s.blk with
              port1 := s.blk.port1.withoutCopies q
              port2 := s.blk.port2.withoutCopies q
              relay := { s.blk.relay with waiting := s.blk.relay.waiting.filter fun y => y.id ≠ q } }
            []))

/-- R72 and R66: when a port holds a queued copy of the SEND with mark q, and what the abandon removes from the port:
every queued copy, and a SERVICE queue left empty has deficit 0; a copy in transmission is sent to its end without
its mark, so that its end is reported to no slot; every other item of the port stands. -/
def Says.CopiesRemoved : Prop :=
  ∀ (lp : LinkPort) (q : Nat),
    let kept (xs : List QTel) : List QTel := xs.filter fun x => decide (x.origin ≠ some q)
    (lp.hasQueued q = true ↔ ∃ c : Fin 4, ∃ x ∈ lp.queues.get c, x.origin = some q) ∧
    lp.withoutCopies q = { lp with
      queues := { x0 := kept lp.queues.x0, x1 := kept lp.queues.x1, x2 := kept lp.queues.x2
                  x3 := kept lp.queues.x3 }
      defService := if kept lp.queues.x3 = [] then 0 else lp.defService
      tx := match lp.tx with
        | .telegram x => .telegram (if x.origin = some q then { x with origin := none } else x)
        | other => other }

/-- R171 with R28, R66 and R72: ABANDON, and what it removes from the ports. -/
def Obligations.Abandon : Prop :=
  Says.AbandonRow ∧ Says.CopiesRemoved

/-! ## SEND -/

/-- R69, rows 1 to 6, and R169: a SEND refused before it is originated. POSITION and RANGE take both destination
bytes in rows 4 and 6; that differing bytes of a POSITION are no row's refusal is log entry 11. -/
def Obligations.SendRefused : Prop :=
  ∀ (n : Fin 16) (tag cls mode lo hi flags : Byte) (plen : Word) (payload : List Byte) (s : State),
    s.ready n tag →
    let body := [cls, mode, lo, hi, flags] ++ wordBytes plen ++ payload
    let answer (r : ResultCode) :=
      exec (.send n tag cls mode lo hi flags plen payload) s =
        .next (s.answered n tag 4 body s.blk (.no r) [])
    let ranged := mode.toNat = 2
    let single := mode.toNat = 1
    let byPort := mode.toNat = 0
    let badPos (d : Byte) := d.toNat < 1 ∨ 32 < d.toNat
    let row3 := 464 < plen.toNat ∨ payload.length < plen.toNat
    let row4 := (byPort ∧ lo.toNat ≠ 1 ∧ lo.toNat ≠ 2) ∨ (single ∧ (badPos lo ∨ badPos hi)) ∨
      (ranged ∧ (badPos lo ∨ badPos hi ∨ hi.toNat < lo.toNat))
    let row6 := (byPort ∧ ((lo.toNat = 1 ∧ s.blk.isUp .p1 = false) ∨ (lo.toNat = 2 ∧ s.blk.isUp .p2 = false))) ∨
      ((single ∨ ranged) ∧ (s.blk.cars < lo.toNat ∨ s.blk.cars < hi.toNat))
    (480 < 7 + payload.length → answer .badField) ∧
    (7 + payload.length ≤ 480 →
      (3 < cls.toNat ∨ 4 < mode.toNat → answer .badField) ∧
      (mode.toNat ≤ 4 → cls.toNat = 0 ∨ cls.toNat = 2 → answer .badClass) ∧
      (mode.toNat ≤ 4 → cls.toNat = 1 ∨ cls.toNat = 3 →
        (row3 → answer .badLength) ∧
        (¬ row3 →
          (row4 → answer .badField) ∧
          (¬ row4 →
            (¬ byPort → s.blk.consist.table = none → answer .noConsist) ∧
            (byPort ∨ s.blk.consist.table ≠ none → row6 → answer .badDestination)))))

/-- R69 rows 7 and 8, R70: a SEND that passes rows 1 to 6 is originated; refused admission it answers
NO_BUFFER with the drops counted (log entry 32), without a copy placed it is DONE at once, else it waits, under
the model's mark (log entry 34). The DATA telegram carries the command's class, mode, destination, flags and payload
under the sequence counter's number; that mode POSITION sends its low byte in both fields is log entry 11. -/
def Says.SendOriginated : Prop :=
  ∀ (n : Fin 16) (tag lo hi flags : Byte) (plen : Word) (payload : List Byte) (c : Cls) (m : Mode) (s : State),
    s.ready n tag → c = .control ∨ c = .service → plen.toNat ≤ payload.length →
    7 + payload.length ≤ 480 → plen.toNat ≤ 464 → badDest m lo.toNat hi.toNat = false →
    (m ≠ .neighbour → s.blk.consist.table ≠ none) → s.blk.unreachable m lo.toNat hi.toNat = false →
    let cls := byte (clsIdx c).val
    let body := [cls, byte (modeNum m), lo, hi, flags] ++ wordBytes plen ++ payload
    let q := s.blk.relay.seq
    let mark := s.blk.origCount
    let o : Outgoing := { kind := .data, cls := c, mode := m, lo := lo, hi := if m = .position then lo else hi
                          flags := flags, seq := q, payload := payload.take plen.toNat }
    let x := (Ev.start s.blk).originateData o
    let rep := x.2.report
    let here := x.2.localTel.isSome
    (rep.refused ≠ 0 → exec (.send n tag cls (byte (modeNum m)) lo hi flags plen payload) s =
      .next (s.answeredDoing n tag 4 body s.blk (.no .noBuffer) fun e => (e.originateData o).1)) ∧
    (rep.refused = 0 → rep.placed = 0 →
      exec (.send n tag cls (byte (modeNum m)) lo hi flags plen payload) s =
        .next (s.answeredDoing n tag 4 body s.blk (.done q (hiLo 0 rep.down) (flagWord here)) fun e =>
          let y := e.originateData o
          (y.1.setRelay { y.1.relay with seq := q + 1 }).offerLocal y.2.localTel)) ∧
    (rep.refused = 0 → rep.placed ≠ 0 →
      exec (.send n tag cls (byte (modeNum m)) lo hi flags plen payload) s =
        .next (s.answeredDoing n tag 4 body s.blk (.taken (.send mark) q) fun e =>
          let y := e.originateData o
          (y.1.setRelay { seq := q + 1, waiting := y.1.relay.waiting ++
              [{ slot := some n, id := mark, seq := q, left := rep.placed, sent := 0, lost := rep.down
                 localCopy := here }] }).offerLocal y.2.localTel))

/-! ## DOOR and ADOPT_PROFILE -/

/-- R102: the field checks of a DOOR command. -/
def Says.DoorBadFields : Prop :=
  ∀ (n : Fin 16) (tag action scope side lo hi number attest : Byte) (s : State), s.ready n tag →
    let ranged := lo.toNat ≠ 0 ∨ hi.toNat ≠ 0
    let inRange (d : Byte) := 1 ≤ d.toNat ∧ d.toNat ≤ 32
    let count := if side.toNat = 1 then s.blk.profile.doorsLeft else s.blk.profile.doorsRight
    (action.toNat < 1 ∨ 4 < action.toNat ∨ scope.toNat < 1 ∨ 2 < scope.toNat ∨
      side.toNat < 1 ∨ 3 < side.toNat ∨
      (action.toNat ≠ 2 ∧ side.toNat = 3) ∨
      (3 ≤ action.toNat ∧ (number.toNat < 1 ∨ 4 < number.toNat ∨ count < number.toNat)) ∨
      (scope.toNat = 1 ∧ action.toNat ≤ 2 ∧ ranged ∧
        ¬ (inRange lo ∧ inRange hi ∧ lo.toNat ≤ hi.toNat))) →
    exec (.door n tag action scope side lo hi number attest) s =
      .next (s.answered n tag 5 [action, scope, side, lo, hi, number, attest] s.blk (.no .badField) [])

/-- R104: DOOR in CAR scope. CLOSE acts in every role on each side named (1 left, 2 right, 3 both); RELEASE
acts in an ALONE car only. The sides are closed and released as DoorSideClosed and DoorSideReleased state. -/
def Says.DoorCarScope : Prop :=
  ∀ (n : Fin 16) (tag lo hi number attest : Byte) (s : State), s.ready n tag →
    let body (action side : Byte) := [action, 2, side, lo, hi, number, attest]
    exec (.door n tag 2 2 1 lo hi number attest) s =
      .next (s.answeredDoing n tag 5 (body 2 1) s.blk .ok fun e => e.closeSide .left) ∧
    exec (.door n tag 2 2 2 lo hi number attest) s =
      .next (s.answeredDoing n tag 5 (body 2 2) s.blk .ok fun e => e.closeSide .right) ∧
    exec (.door n tag 2 2 3 lo hi number attest) s =
      .next (s.answeredDoing n tag 5 (body 2 3) s.blk .ok fun e => (e.closeSide .left).closeSide .right) ∧
    ∀ x : Side,
      (s.blk.consist.role ≠ .alone → exec (.door n tag 1 2 (byte (sideNum x)) lo hi number attest) s =
        .next (s.answered n tag 5 (body 1 (byte (sideNum x))) s.blk (.no .notAuthorized) [])) ∧
      (s.blk.consist.role = .alone →
        let y := (Ev.start s.blk).releaseSide x (attest == 1) .attestation .command
        exec (.door n tag 1 2 (byte (sideNum x)) lo hi number attest) s =
          .next (s.answeredDoing n tag 5 (body 1 (byte (sideNum x))) s.blk
            (match y.2 with | none => .ok | some why => .no why)
            fun e => (e.releaseSide x (attest == 1) .attestation .command).1))

/-- R103: RELEASE (1) and CLOSE (2) in TRAIN scope: the refusals, and the DOOR telegram with the slot's answer
by the fate of its port copy. That the local copy follows the port copy is log entry 9, that it is consumed before
its delivery log entry 8. -/
def Obligations.DoorTrainScope : Prop :=
  ∀ (n : Fin 16) (tag action side lo hi number attest : Byte) (s : State), s.ready n tag →
    action.toNat = 1 ∧ (side.toNat = 1 ∨ side.toNat = 2) ∨
      action.toNat = 2 ∧ (side.toNat = 1 ∨ side.toNat = 2 ∨ side.toNat = 3) →
    lo.toNat = 0 ∧ hi.toNat = 0 ∨ 1 ≤ lo.toNat ∧ lo.toNat ≤ hi.toNat ∧ hi.toNat ≤ 32 →
    let body := [action, 1, side, lo, hi, number, attest]
    let c := s.blk.consist
    let flag := match s.blk.motion.state with
      | .unfitted => attest == 1
      | .stopped => true
      | .unknown | .moving | .faulted => false
    let o : Outgoing := { kind := .door, cls := .safety
                          mode := if hi.toNat = 0 then .all else .range
                          lo := lo, hi := hi, payload := [action, side, byte (flagNat flag)] }
    let x := (Ev.start s.blk).originate o
    let here := flagWord x.2.localTel.isSome
    (c.role ≠ .lead → exec (.door n tag action 1 side lo hi number attest) s =
      .next (s.answered n tag 5 body s.blk (.no .notLead) [])) ∧
    (c.role = .lead →
      (action.toNat = 1 → c.sweep ≠ .idle → exec (.door n tag action 1 side lo hi number attest) s =
        .next (s.answered n tag 5 body s.blk (.no .sweepInProgress) [])) ∧
      (action.toNat = 2 ∨ c.sweep = .idle →
        (s.blk.cars < hi.toNat → exec (.door n tag action 1 side lo hi number attest) s =
          .next (s.answered n tag 5 body s.blk (.no .badDestination) [])) ∧
        (hi.toNat ≤ s.blk.cars → exec (.door n tag action 1 side lo hi number attest) s =
          .next (s.answeredDoing n tag 5 body s.blk
            (if x.2.report.refused ≠ 0 then .refused .noBuffer 0 here
             else if x.2.report.placed ≠ 0 then .done 1 here 0
             else if x.2.report.down ≠ 0 then .done 3 here 0 else .done 2 here 0)
            fun e =>
              let y := e.originate o
              match y.2.localTel with
              | some t => (y.1.takeDoor t.payload).offer 0 t
              | none => y.1))))

/-- R105 and R106: ISOLATE (3) and RESTORE (4) of a configured door, in either scope. ISOLATE finds the door as
`closeLimit` leaves it: one whose limit a tick taken before it has reached enters LATE first (R91, log entry 20). -/
def Says.DoorIsolateRestore : Prop :=
  ∀ (n : Fin 16) (tag scope lo hi attest : Byte) (x : Side) (d : Fin 4) (s : State), s.ready n tag →
    scope.toNat = 1 ∨ scope.toNat = 2 → d.val < s.blk.profile.doorCount x →
    let r := s.blk.doors.side x
    let y := r.doors.get d
    let num := byte (d.val + 1)
    let body (action : Byte) := [action, scope, byte (sideNum x), lo, hi, num, attest]
    let isolated (r : SideRec) : SideRec :=
      let r1 := { r with doors := r.doors.set d { r.doors.get d with state := .isolated } }
      { r1 with closeReq := r.closeReq && (r1.configured (s.blk.profile.doorCount x)).any fun z =>
          z.state != .closed && z.state != .isolated }
    let restored : DoorRec :=
      if y.contact then { y with state := .closed }
      else if r.release then { y with state := .opened }
      else if r.closeReq then { y with state := .closing, timer := 0, limitDue := none }
      else { y with state := .forced }
    (y.state = .isolated → exec (.door n tag 3 scope (byte (sideNum x)) lo hi num attest) s =
      .next (s.answered n tag 5 (body 3) s.blk .ok [])) ∧
    (y.state ≠ .isolated → exec (.door n tag 3 scope (byte (sideNum x)) lo hi num attest) s =
      .next (s.answeredDoing n tag 5 (body 3) s.blk .ok fun e =>
        let e0 := e.closeLimit x d
        (e0.setDoors (e0.doors.setSide x (isolated (e0.doors.side x)))).doorsSettled e0.toBlocks)) ∧
    (y.state ≠ .isolated → exec (.door n tag 4 scope (byte (sideNum x)) lo hi num attest) s =
      .next (s.answered n tag 5 (body 4) s.blk .ok [])) ∧
    (y.state = .isolated → exec (.door n tag 4 scope (byte (sideNum x)) lo hi num attest) s =
      .next (s.answeredDoing n tag 5 (body 4)
        { s.blk with doors := s.blk.doors.setSide x { r with doors := r.doors.set d restored } } .ok fun e =>
          (if restored.state = .forced then
             e.notice .doorForced (hiLo (sideNum x) (d.val + 1)) (word s.blk.pos) else e).doorsSettled s.blk))

/-- R102 and R104 to R106: the DOOR command's field checks, its CAR scope, ISOLATE and RESTORE. -/
def Obligations.DoorCommand : Prop :=
  Says.DoorBadFields ∧ Says.DoorCarScope ∧ Says.DoorIsolateRestore

/-- R178 and R179 with 11.4: the fields of the profile area as read, beside the heater mode word, and the word offset
of the first field outside its range. -/
def Says.ProfileRead : Prop :=
  (∀ h : Memory,
    let w (i : Nat) : Nat := (h.read i).toNat
    readProfile h =
      ({ identity := h.read 1 ++ h.read 0, doorsLeft := w 2 % 256, doorsRight := w 2 / 256
         cab1 := (h.read 3).getLsbD 0, cab2 := (h.read 3).getLsbD 1, sensor := (h.read 3).getLsbD 2
         z := w 4, r := w 5, f := w 6, s := w 7, mode := if w 8 = 1 then .dual else .quad
         closeLimit := w 9, otLimit := w 10, otHyst := w 11, hcuScale := w 12, q := w 13
         powerWeight := w 14, serviceWeight := w 15
         limSafety := w 16, limControl := w 17, limPower := w 18, limService := w 19 }, w 8)) ∧
  ∀ (f : Profile) (mode : Nat),
    let fits (off : Nat) : Prop := match off with
      | 0 => f.identity.toNat ≤ 0xFFFFFFFE
      | 2 => f.doorsLeft ≤ 4 ∧ f.doorsRight ≤ 4
      | 4 => f.z ≤ 255
      | 5 => f.r ≤ 200 ∧ (f.identity = 0 → f.r = 0)
      | 6 => f.f ≤ 255
      | 7 => f.s ≤ 255
      | 8 => mode = 0 ∨ mode = 1
      | 9 => 10 ≤ f.closeLimit ∧ f.closeLimit ≤ 255
      | 12 => f.hcuScale ≤ 400
      | 13 => 1 ≤ f.q ∧ f.q ≤ 255
      | 14 => 1 ≤ f.powerWeight ∧ f.powerWeight ≤ 31
      | 15 => 1 ≤ f.serviceWeight ∧ f.serviceWeight ≤ 31
      | 16 => f.limSafety ≤ 256
      | 17 => f.limControl ≤ 256
      | 18 => f.limPower ≤ 256
      | 19 => f.limService ≤ 256
      | _ => True
    (firstBadField f mode = none ↔ ∀ off, fits off) ∧
    ∀ off, firstBadField f mode = some off ↔ ¬ fits off ∧ ∀ i < off, fits i

/-- R179 and R180 with 11.3: the bits of the reply that name the changed groups, the items whose change sends a JOIN,
and what rows 2 and 3 of R179 look at. -/
def Says.ProfileChanges : Prop :=
  (∀ f g : Profile,
    let changed (k : Nat) : Prop := match k with
      | 0 => f.identity ≠ g.identity
      | 1 => f.doorsLeft ≠ g.doorsLeft ∨ f.doorsRight ≠ g.doorsRight
      | 2 => f.cab1 ≠ g.cab1 ∨ f.cab2 ≠ g.cab2
      | 3 => f.sensor ≠ g.sensor ∨ f.z ≠ g.z
      | 4 => f.r ≠ g.r ∨ f.f ≠ g.f ∨ f.s ≠ g.s
      | 5 => f.mode ≠ g.mode
      | 6 => f.closeLimit ≠ g.closeLimit
      | 7 => f.otLimit ≠ g.otLimit ∨ f.otHyst ≠ g.otHyst
      | 8 => f.hcuScale ≠ g.hcuScale
      | 9 => f.q ≠ g.q
      | 10 => f.powerWeight ≠ g.powerWeight ∨ f.serviceWeight ≠ g.serviceWeight ∨ f.limSafety ≠ g.limSafety ∨
          f.limControl ≠ g.limControl ∨ f.limPower ≠ g.limPower ∨ f.limService ≠ g.limService
      | _ => False
    (∀ k, (bitsNat (changedGroups f g)).testBit k = true ↔ changed k) ∧
    (entryChanged f g = true ↔ changed 0 ∨ changed 1 ∨ changed 2 ∨ f.sensor ≠ g.sensor ∨ changed 4)) ∧
  ∀ (b : Blocks) (g : Profile),
    let isOpen (x : DoorRec) := x.state != .closed && x.state != .isolated
    (b.cabForbids g = true ↔ ∃ p, b.consist.cabEnd = some p ∧ (g.cabAt p = false ∨ g.identity = 0)) ∧
    (b.openSides g = 0 ↔
      (g.doorsLeft = b.profile.doorsLeft ∨ ¬ (b.doors.left.configured b.profile.doorsLeft).any isOpen) ∧
      (g.doorsRight = b.profile.doorsRight ∨ ¬ (b.doors.right.configured b.profile.doorsRight).any isOpen))

/-- R179: ADOPT_PROFILE reads the whole profile area and refuses a profile with a bad field, one that the
active cab forbids, or one that changes a count over an open door. -/
def Says.AdoptRefused : Prop :=
  ∀ (n : Fin 16) (tag : Byte) (s : State), s.ready n tag →
    let h := (s.post n { req := .posted, kind := 1, tag := tag } []).host
    let g := (readProfile h).1
    let isOpen (x : DoorRec) := x.state != .closed && x.state != .isolated
    let stuckLeft := decide (g.doorsLeft ≠ s.blk.profile.doorsLeft) &&
      (s.blk.doors.left.configured s.blk.profile.doorsLeft).any isOpen
    let stuckRight := decide (g.doorsRight ≠ s.blk.profile.doorsRight) &&
      (s.blk.doors.right.configured s.blk.profile.doorsRight).any isOpen
    let cabForbids := ∃ p, s.blk.consist.cabEnd = some p ∧ (g.cabAt p = false ∨ g.identity = 0)
    let answer (r : TakeResult) :=
      exec (.adoptProfile n tag) s = .next (s.answered n tag 1 [] s.blk r [])
    (∀ off, firstBadField g (readProfile h).2 = some off → answer (.refused .badField 0 (word off))) ∧
    (firstBadField g (readProfile h).2 = none →
      (cabForbids → answer (.no .cabActive)) ∧
      (¬ cabForbids → (stuckLeft = true ∨ stuckRight = true) →
        answer (.refused .doorsNotClosed 0 (word (flagNat stuckLeft + 2 * flagNat stuckRight)))))

/-- R180: an accepted ADOPT_PROFILE replaces the live profile whole with the area as read; positions, link
states and the other items no chapter has react to it stay. That the reply's JOIN bit is set at the lead too is
log entry 16. -/
def Says.AdoptAccepted : Prop :=
  ∀ (n : Fin 16) (tag : Byte) (s : State), s.ready n tag →
    let h := (s.post n { req := .posted, kind := 1, tag := tag } []).host
    let g := (readProfile h).1
    firstBadField g (readProfile h).2 = none → s.blk.cabForbids g = false → s.blk.openSides g = 0 →
    let changed := bitsNat (changedGroups s.blk.profile g)
    let joins := entryChanged s.blk.profile g && s.blk.consist.table.isSome
    ∃ t : State, exec (.adoptProfile n tag) s = .next t ∧
      t = s.answeredDoing n tag 1 [] s.blk (.done (word (changed + 32768 * flagNat joins)) 0 0)
        (fun e => e.adopt g) ∧
      t.blk.profile = g ∧ t.blk.tick = s.blk.tick ∧ t.pending = s.pending ∧ t.host = h ∧
      (∀ p, (t.blk.port p).state = (s.blk.port p).state ∧ (t.blk.port p).nbrId = (s.blk.port p).nbrId ∧
        (t.blk.port p).nbrEnd = (s.blk.port p).nbrEnd ∧ (t.blk.port p).settle = (s.blk.port p).settle ∧
        (t.blk.port p).badRun = (s.blk.port p).badRun ∧ (t.blk.port p).cleanRun = (s.blk.port p).cleanRun) ∧
      t.blk.consist.table = s.blk.consist.table ∧ t.blk.consist.role = s.blk.consist.role ∧
      t.blk.monitor = s.blk.monitor ∧ t.blk.alloc = s.blk.alloc ∧ t.blk.summary = s.blk.summary ∧
      t.blk.demand.setpoint = s.blk.demand.setpoint ∧ t.blk.demand.gain = s.blk.demand.gain ∧
      t.blk.demand.boost = s.blk.demand.boost ∧
      (joins = false → t.blk.consist = s.blk.consist ∧ t.blk.relay = s.blk.relay)

/-! ## Coupler line ports -/

/-- R4: a mark falls due at an idle transmitter, or waits behind the frame in progress. -/
def Says.MarkDue : Prop :=
  ∀ (p : Port) (s : State),
    let lp := s.blk.port p
    exec (.markDue p) s = .next (s.after
      (s.blk.withPort p
        (if lp.tx = .idle then { lp with tx := .mark s.blk.profile.identity, markDue := false }
         else { lp with markDue := true })) [])

/-- R5 and R67: a frame ends. The telegram's cells go free with it and its SEND records it sent; then a due mark
starts, or the scheduler is asked while the port is UP. -/
def Says.FrameEnd : Prop :=
  ∀ (p : Port) (s : State),
    let lp := s.blk.port p
    let b := s.blk.withPort p { lp with tx := .idle }
    let next (e : Ev) : Ev :=
      if lp.markDue then
        e.setPort p { e.port p with tx := .mark s.blk.profile.identity, markDue := false }
      else if lp.state = .up then e.setPort p ((e.port p).schedule s.blk.profile)
      else e
    (lp.tx = .idle → exec (.frameEnd p) s = .next s) ∧
    ((∃ i, lp.tx = .mark i) ∨ lp.tx = .abort → exec (.frameEnd p) s = .next (s.does b next)) ∧
    ∀ q, lp.tx = .telegram q →
      exec (.frameEnd p) s = .next (s.does b fun e => next (e.settleCopy q.origin true))

/-- R4, R5 and R67: a mark falls due; a frame ends. -/
def Obligations.Transmitter : Prop :=
  Says.MarkDue ∧ Says.FrameEnd

/-- R64: the scheduler takes the head of the SAFETY queue, else of the CONTROL queue, and leaves a port with
empty queues as it is. -/
def Says.ScheduleByClass : Prop :=
  ∀ (f : Profile) (lp : LinkPort),
    (∀ q rest, lp.queues.x0 = q :: rest →
      lp.schedule f = { lp with queues := { lp.queues with x0 := rest }, tx := .telegram q }) ∧
    (∀ q rest, lp.queues.x0 = [] → lp.queues.x1 = q :: rest →
      lp.schedule f = { lp with queues := { lp.queues with x1 := rest }, tx := .telegram q }) ∧
    (lp.queues = Quad.const [] → lp.schedule f = lp)

/-- R65: with the weights in range and telegrams of at most 480 bytes, deficit round robin always chooses the
head of the POWER or the SERVICE queue; the other queues, the marks and the link stay. -/
def Says.RoundRobinChooses : Prop :=
  ∀ (f : Profile) (lp : LinkPort),
    1 ≤ f.powerWeight → 1 ≤ f.serviceWeight →
    (∀ q ∈ lp.queues.x2 ++ lp.queues.x3, q.tel.payload.length ≤ 464) →
    lp.queues.x0 = [] → lp.queues.x1 = [] → (lp.queues.x2 ≠ [] ∨ lp.queues.x3 ≠ []) →
    let r := lp.schedule f
    ∃ q rest, r.tx = .telegram q ∧
      ((lp.queues.x2 = q :: rest ∧ r.queues = { lp.queues with x2 := rest } ∧
          (rest = [] → r.defPower = 0 ∧ r.turn = .service ∧ r.quantumAdded = false) ∧
          (rest ≠ [] → r.turn = .power ∧ r.quantumAdded = true)) ∨
       (lp.queues.x3 = q :: rest ∧ r.queues = { lp.queues with x3 := rest } ∧
          (rest = [] → r.defService = 0 ∧ r.turn = .power ∧ r.quantumAdded = false) ∧
          (rest ≠ [] → r.turn = .service ∧ r.quantumAdded = true))) ∧
      r.state = lp.state ∧ r.markDue = lp.markDue ∧ r.drops = lp.drops

/-- R65: a turn of deficit round robin, from the class whose turn it is: it passes from an empty queue; else the
quantum, weight x 32, is added if it has not been, and the head is chosen when it fits and its length deducted, or
the deficit kept and the turn passed. -/
def Says.RoundRobinTurn : Prop :=
  ∀ (f : Profile) (lp : LinkPort),
    1 ≤ f.powerWeight → 1 ≤ f.serviceWeight →
    (∀ q ∈ lp.queues.x2 ++ lp.queues.x3, q.tel.payload.length ≤ 464) →
    lp.queues.x0 = [] → lp.queues.x1 = [] → (lp.queues.x2 ≠ [] ∨ lp.queues.x3 ≠ []) →
    let quantum (weight : Nat) : Nat := if lp.quantumAdded then 0 else weight * 32
    let dp := lp.defPower + quantum f.powerWeight
    let ds := lp.defService + quantum f.serviceWeight
    (lp.turn = .power → lp.queues.x2 = [] →
      lp.schedule f = { lp with turn := .service, quantumAdded := false }.schedule f) ∧
    (lp.turn = .service → lp.queues.x3 = [] →
      lp.schedule f = { lp with turn := .power, quantumAdded := false }.schedule f) ∧
    (∀ q rest, lp.turn = .power → lp.queues.x2 = q :: rest →
      let len := 16 + q.tel.payload.length
      let chosen : LinkPort := { lp with queues := { lp.queues with x2 := rest }, tx := .telegram q }
      (len ≤ dp → rest = [] →
        lp.schedule f = { chosen with defPower := 0, turn := .service, quantumAdded := false }) ∧
      (len ≤ dp → rest ≠ [] → lp.schedule f = { chosen with defPower := dp - len, quantumAdded := true }) ∧
      (dp < len →
        lp.schedule f = { lp with defPower := dp, turn := .service, quantumAdded := false }.schedule f)) ∧
    ∀ q rest, lp.turn = .service → lp.queues.x3 = q :: rest →
      let len := 16 + q.tel.payload.length
      let chosen : LinkPort := { lp with queues := { lp.queues with x3 := rest }, tx := .telegram q }
      (len ≤ ds → rest = [] →
        lp.schedule f = { chosen with defService := 0, turn := .power, quantumAdded := false }) ∧
      (len ≤ ds → rest ≠ [] → lp.schedule f = { chosen with defService := ds - len, quantumAdded := true }) ∧
      (ds < len →
        lp.schedule f = { lp with defService := ds, turn := .power, quantumAdded := false }.schedule f)

/-- R64 and R65: the choice of the next telegram. -/
def Obligations.Scheduler : Prop :=
  Says.ScheduleByClass ∧ Says.RoundRobinChooses ∧ Says.RoundRobinTurn

/-- R71: what the end of a SEND's copy leaves: the counts, and the completion when it was the last. The mark by
which the copy is known is log entry 34. -/
def Says.SendCompletes : Prop :=
  ∀ (e : Ev) (v : WaitSend) (before rest : List WaitSend) (sent : Bool),
    e.relay.waiting = before ++ v :: rest → (∀ w ∈ before, w.id ≠ v.id) →
    let u : WaitSend := { v with left := v.left - 1, sent := v.sent + flagNat sent
                                 lost := v.lost + flagNat (!sent) }
    (2 ≤ v.left → e.settleCopy (some v.id) sent =
      e.setRelay { e.relay with waiting := before ++ u :: rest }) ∧
    (v.left = 1 → ∀ n, v.slot = some n → e.settleCopy (some v.id) sent =
      (e.setRelay { e.relay with waiting := before ++ rest }).emit
        (.complete n v.seq (hiLo u.sent u.lost) (flagWord v.localCopy))) ∧
    (v.left = 1 → v.slot = none → e.settleCopy (some v.id) sent =
      e.setRelay { e.relay with waiting := before ++ rest })

/-- R69 to R71: a SEND that is originated, and how its slot completes. -/
def Obligations.SendAccepted : Prop :=
  Says.SendOriginated ∧ Says.SendCompletes

/-- R61 and R63 with R15: one copy for a port: lost while the port is not UP, else queued at the tail of its
class and the scheduler asked, else refused; losses are counted and told for SAFETY. -/
def Says.CopyPlaced : Prop :=
  ∀ (e : Ev) (c : Cls) (o : Option Nat) (p : Port) (t : Telegram),
    let cells := (16 + t.payload.length + 31) / 32
    let safe := e.occ .safety
    let fits := if c = .safety then cells ≤ e.free ∧ safe + cells ≤ e.profile.limit c
      else e.occ c + cells ≤ e.profile.limit c ∧ cells + (24 - safe) ≤ e.free
    let x := e.placeCopies c o [{ port := p, tel := t }]
    let counted := e.setPort p ((e.port p).addDrop c)
    let detail := hiLo (portNum p) t.hdr.kind.toNat
    let dest := hiLo t.hdr.dstLo.toNat t.hdr.dstHi.toNat
    ((e.port p).state ≠ .up → x = ((if c = .safety then counted.notice .telegramLost detail dest else counted),
      { down := 1 })) ∧
    ((e.port p).state = .up → ¬ fits →
      x = ((if c = .safety then counted.notice .telegramDropped detail dest else counted), { refused := 1 })) ∧
    ((e.port p).state = .up → fits →
      let lp := (e.port p).setQueue c ((e.port p).queue c ++ [{ cls := c, tel := t, origin := o }])
      x = (e.setPort p (if lp.tx = .idle then lp.schedule e.profile else lp), { placed := 1 }))

/-- R61, R62 and R63 with R15: two copies, the first for port p. With both ports UP they are taken whole, each at
the tail of its class queue and its scheduler asked, or refused whole and each counted; a copy for a port that is
not UP is lost and the other placed as if it were alone. -/
def Says.PairPlacedWhole : Prop :=
  ∀ (e : Ev) (c : Cls) (o : Option Nat) (p : Port) (t u : Telegram),
    let p' := portOther p
    let cells := (16 + t.payload.length + 31) / 32 + (16 + u.payload.length + 31) / 32
    let safe := e.occ .safety
    let fits := if c = .safety then cells ≤ e.free ∧ safe + cells ≤ e.profile.limit c
      else e.occ c + cells ≤ e.profile.limit c ∧ cells + (24 - safe) ≤ e.free
    let queued (lp : LinkPort) (w : Telegram) : LinkPort :=
      let lp1 := lp.setQueue c (lp.queue c ++ [{ cls := c, tel := w, origin := o }])
      if lp1.tx = .idle then lp1.schedule e.profile else lp1
    let dropped (k : Notice) (r : Port) (w : Telegram) (d : Ev) : Ev :=
      let d1 := d.setPort r ((d.port r).addDrop c)
      if c = .safety then
        d1.notice k (hiLo (portNum r) w.hdr.kind.toNat) (hiLo w.hdr.dstLo.toNat w.hdr.dstHi.toNat)
      else d1
    let x := e.placeCopies c o [{ port := p, tel := t }, { port := p', tel := u }]
    ((e.port p).state = .up → (e.port p').state = .up →
      (fits → x = ((e.setPort p (queued (e.port p) t)).setPort p' (queued (e.port p') u), { placed := 2 })) ∧
      (¬ fits → x = (dropped .telegramDropped p' u (dropped .telegramDropped p t e), { refused := 2 }))) ∧
    ((e.port p).state ≠ .up → (e.port p').state = .up →
      let y := (dropped .telegramLost p t e).placeCopies c o [{ port := p', tel := u }]
      x = (y.1, { y.2 with down := 1 })) ∧
    ((e.port p).state = .up → (e.port p').state ≠ .up →
      let y := (dropped .telegramLost p' u e).placeCopies c o [{ port := p, tel := t }]
      x = (y.1, { y.2 with down := 1 })) ∧
    ((e.port p).state ≠ .up → (e.port p').state ≠ .up →
      x = (dropped .telegramLost p' u (dropped .telegramLost p t e), { down := 2 }))

/-- R59: the telegram that is built: the header completed from the car's records, the payload as given. -/
def Says.HeaderCompleted : Prop :=
  ∀ (b : Blocks) (o : Outgoing) (hops : Byte),
    let table (g : LiveTable → Byte) : Byte := match b.consist.table with | some tb => g tb | none => 0
    b.telegramFor o hops =
      { hdr := { kind := byte (kindNum o.kind), classMode := byte (16 * modeNum o.mode + (clsIdx o.cls).val)
                 hops := hops, gen := table fun tb => tb.gen, srcPos := table fun tb => byte tb.pos
                 dstLo := o.lo, dstHi := o.hi, flags := o.flags, seq := o.seq
                 plen := word o.payload.length, srcId := b.profile.identity }
        payload := o.payload }

/-- R59, R60 and R57: an origination in a positioned mode: the copy toward the lead on the toward-lead port and the
copy away on the other, each with its hops, and the local copy. In modes ALL and LEAD the destination bytes, and in
every mode the hops of the local copy, are free values (log entry 10); the order of the copies is log entry 9. -/
def Says.Originates : Prop :=
  ∀ (e : Ev) (o : Outgoing) (i : Option Nat),
    (e.consist.table = none → e.originate o i = (e, { report := {}, localTel := none })) ∧
    ∀ tb, e.consist.table = some tb → o.mode ≠ .neighbour →
      let k := e.origCount
      let free := o.mode = .all ∨ o.mode = .lead
      let o1 := { o with lo := if free then Config.openDstLo k else o.lo
                         hi := if free then Config.openDstHi k else o.hi }
      let lo := o1.lo.toNat
      let hi := o1.hi.toNat
      let copy (p : Port) (hops : Option Nat) : List Copy :=
        hops.toList.map fun h => { port := p, tel := e.toBlocks.telegramFor o1 (byte h) }
      let x := e.originate o i
      (x.1, x.2.report) = { e with origCount := k + 1 }.placeCopies o.cls i
        (copy tb.toward (towardHops tb.pos o.mode lo) ++
          copy (portOther tb.toward) (awayHops tb.pos tb.entries.length o.mode lo hi)) ∧
      x.2.localTel = if localDue tb.pos o.mode lo hi then
        some (e.toBlocks.telegramFor o1 (Config.localHops k)) else none

/-- R29, R59 and R60: mode NEIGHBOUR: one copy on the port named, hops 0, the port's number in the destination low
field (the high one is a free value, log entry 10); sweep-family telegrams are of class CONTROL. The DATA of a SEND
in any other mode is originated as every positioned telegram is, its copies under the SEND's mark (log
entry 34). -/
def Says.NeighbourSent : Prop :=
  ∀ (e : Ev) (p : Port),
    let k := e.origCount
    let one (o : Outgoing) (i : Option Nat) := { e with origCount := k + 1 }.placeCopies o.cls i
      [{ port := p
         tel := e.toBlocks.telegramFor
           { o with mode := .neighbour, lo := byte (portNum p), hi := Config.openDstHi k } 0 }]
    (∀ o i, e.sendNeighbour p o i = one o i) ∧
    (∀ o, o.mode = .neighbour → o.lo = byte (portNum p) →
      let y := one o (some k)
      e.originateData o = (y.1, { report := y.2, localTel := none })) ∧
    (∀ o, o.mode ≠ .neighbour → e.originateData o = e.originate o (some k)) ∧
    ∀ kind payload, e.sendFamily p kind payload =
      (one { kind := kind, cls := .control, mode := .neighbour, payload := payload } none).1

/-- R60 with R59: which copies an originated telegram has, and their hops, by mode, from position q of N. -/
def Says.OriginatedCopies : Prop :=
  ∀ (q n lo hi : Nat), 1 ≤ q → q ≤ n →
    (towardHops q .position lo = if lo < q then some (q - lo) else none) ∧
    (awayHops q n .position lo hi = if q < lo then some (lo - q) else none) ∧
    (localDue q .position lo hi = true ↔ lo = q) ∧
    (towardHops q .range lo = if lo < q then some (q - lo) else none) ∧
    (awayHops q n .range lo hi = if q < hi then some (hi - q) else none) ∧
    (localDue q .range lo hi = true ↔ lo ≤ q ∧ q ≤ hi) ∧
    (towardHops q .all lo = if 1 < q then some (q - 1) else none) ∧
    (awayHops q n .all lo hi = if q < n then some (n - q) else none) ∧
    localDue q .all lo hi = true ∧
    (towardHops q .lead lo = if 1 < q then some (q - 1) else none) ∧
    awayHops q n .lead lo hi = none ∧ (localDue q .lead lo hi = true ↔ q = 1)

/-- R29 and R59 to R63: an originated telegram, its copies and their admission. -/
def Obligations.Copies : Prop :=
  Says.CopyPlaced ∧ Says.PairPlacedWhole ∧ Says.OriginatedCopies ∧ Says.HeaderCompleted ∧ Says.Originates ∧
    Says.NeighbourSent

/-- R2, R8 and R11: a failed frame counts one error of its port's window, breaks the run of a SETTLING port,
and changes nothing else. -/
def Says.LineErrors : Prop :=
  ∀ (p : Port) (s : State) (c : Instr), c ∈ [Instr.framingError p, .frameCheckFailure p] →
    let lp := s.blk.port p
    exec c s = .next (s.after (s.blk.withPort p { lp with
      winErr := if lp.winErr = 65535 then 65535 else lp.winErr + 1
      settle := if lp.state = .settling then 0 else lp.settle }) [])

/-- R3: a mark with an end other than 1 or 2, or an echo of this car's own, counts as a framing error. -/
def Says.MarkRejected : Prop :=
  ∀ (p : Port) (i : Ident) (x : Byte) (s : State),
    (x.toNat ≠ 1 ∧ x.toNat ≠ 2) ∨ (i = s.blk.profile.identity ∧ i ≠ 0 ∧ x.toNat = portNum p) →
    exec (.markReceived p i x) s = exec (.framingError p) s

/-- R7, R8, R9 and R10: a valid mark, by the state of its port, but for the change of neighbour in UP. -/
def Says.MarkTaken : Prop :=
  ∀ (p : Port) (i : Ident) (x : Byte) (s : State), x.toNat = 1 ∨ x.toNat = 2 →
    ¬ (i = s.blk.profile.identity ∧ i ≠ 0 ∧ x.toNat = portNum p) →
    let lp := s.blk.port p
    let now := Timer.running s.blk.tick
    let candidate := s.blk.withPort p
      { lp with state := .settling, nbrId := i, nbrEnd := x, settle := 1, silence := now }
    let run := exec (.markReceived p i x) s
    (lp.state = .dead → run = .next (s.after candidate
      [candidate.tells .linkChange (hiLo (portNum p) 1) (hiLo 0 1), candidate.shows .link])) ∧
    (lp.state = .settling → lp.settle = 0 ∨ lp.nbrId ≠ i ∨ lp.nbrEnd ≠ x →
      run = .next (s.after candidate [])) ∧
    (lp.state = .settling → lp.nbrId = i → lp.nbrEnd = x →
      (1 ≤ lp.settle → lp.settle < 19 → run = .next (s.after
        (s.blk.withPort p { lp with settle := lp.settle + 1, silence := now }) [])) ∧
      (19 ≤ lp.settle → run = .next (s.does
        (s.blk.withPort p { lp with state := .up, settle := 20, silence := now, badRun := 0 }) fun e =>
          ((e.notice .linkChange (hiLo (portNum p) 2) (hiLo 1 2)).ask .link).consistPortUp p))) ∧
    (lp.state = .up → lp.nbrId = i → lp.nbrEnd = x →
      run = .next (s.after (s.blk.withPort p { lp with silence := now }) [])) ∧
    (lp.state = .faulted → run = .next s)

/-- R9: a valid mark of another neighbour in UP: the port leaves UP for DEAD with all that entails, then enters
SETTLING with this mark as candidate; both changes are told. -/
def Says.NewNeighbour : Prop :=
  ∀ (p : Port) (i : Ident) (x : Byte) (s : State), x.toNat = 1 ∨ x.toNat = 2 →
    ¬ (i = s.blk.profile.identity ∧ i ≠ 0 ∧ x.toNat = portNum p) →
    (s.blk.port p).state = .up → (s.blk.port p).nbrId ≠ i ∨ (s.blk.port p).nbrEnd ≠ x →
    exec (.markReceived p i x) s = .next (s.does s.blk fun e =>
      let e1 := e.leaveUp p .dead .newNeighbour
      ((e1.setPort p { e1.port p with
        state := .settling, nbrId := i, nbrEnd := x, settle := 1, silence := .running s.blk.tick }).notice
        .linkChange (hiLo (portNum p) 1) (hiLo 0 4)).ask .link)

/-- R2, R3 and R7 to R11: what a port makes of a received mark and of a failed frame. -/
def Obligations.MarksAndErrors : Prop :=
  Says.LineErrors ∧ Says.MarkRejected ∧ Says.MarkTaken ∧ Says.NewNeighbour

/-- R8, R9 and R10: the silence timer reaches 35 ms; an expiry of a stopped timer is none (log entry 6). -/
def Says.SilenceTimer : Prop :=
  ∀ (p : Port) (s : State),
    let lp := s.blk.port p
    (lp.silence = .stopped ∨ lp.state = .dead ∨ lp.state = .faulted →
      exec (.silenceTimerExpiry p) s = .next s) ∧
    ∀ since, lp.silence = .running since →
      (lp.state = .settling →
        let b := s.blk.withPort p { lp with state := .dead, nbrId := 0, nbrEnd := 0, settle := 0
                                            silence := .stopped }
        exec (.silenceTimerExpiry p) s = .next (s.after b
          [b.tells .linkChange (hiLo (portNum p) 0) (hiLo 1 3), b.shows .link])) ∧
      (lp.state = .up → exec (.silenceTimerExpiry p) s = .next (s.does s.blk fun e =>
        e.leaveUp p .dead .silence))

/-- R13, R15, R16, R67, R71 and R74: the whole of what leaving UP entails before the consist block is told: the
neighbour cleared, the silence timer stopped, LINK_CHANGE and the LINK page, every queue emptied, the telegram in
transmission cut off; and for each of those telegrams in the order of log entry 9: it is counted in the drop count of
its class, told by TELEGRAM_LOST when SAFETY, and counted lost at its SEND, which completes when it was the last copy.
Nothing else changes. That the consist block is told after it is log entry 9. -/
def Says.LeaveUp : Prop :=
  ∀ (e : Ev) (p : Port) (st : LinkState) (c : LinkCause),
    let lp := e.port p
    let inc (w : Word) : Word := if w = 65535 then 65535 else w + 1
    let sending : List QTel := match lp.tx with | .telegram q => [q] | _ => []
    let traffic := lp.queues.x0 ++ lp.queues.x1 ++ lp.queues.x2 ++ lp.queues.x3 ++ sending
    let lost (a : List WaitSend × List Effect) (q : QTel) : List WaitSend × List Effect :=
      let told : List Effect := if q.cls = .safety then [.notice .telegramLost e.tick
        (hiLo (portNum p) q.tel.hdr.kind.toNat) (hiLo q.tel.hdr.dstLo.toNat q.tel.hdr.dstHi.toNat)] else []
      match q.origin with
      | none => (a.1, a.2 ++ told)
      | some i =>
        let before := a.1.takeWhile fun w => decide (w.id ≠ i)
        match a.1.dropWhile fun w => decide (w.id ≠ i) with
        | [] => (a.1, a.2 ++ told)
        | v :: rest =>
          if v.left ≤ 1 then
            (before ++ rest, a.2 ++ told ++ v.slot.toList.map fun n =>
              .complete n v.seq (hiLo v.sent (v.lost + 1)) (flagWord v.localCopy))
          else (before ++ { v with left := v.left - 1, lost := v.lost + 1 } :: rest, a.2 ++ told)
    let settled := traffic.foldl lost (e.relay.waiting, [])
    let drops := traffic.foldl (fun d q => d.set (clsIdx q.cls) (inc (d.get (clsIdx q.cls)))) lp.drops
    let e1 : Ev := { e with
      relay := { e.relay with waiting := settled.1 }
      effects := e.effects ++ [.notice .linkChange e.tick (hiLo (portNum p) (linkStateNum st))
        (hiLo (linkStateNum lp.state) (linkCauseNum c))] ++ settled.2
      asks := .link :: e.asks }
    e.leaveUp p st c = (e1.setPort p { lp with
        state := st, nbrId := 0, nbrEnd := 0, silence := .stopped, queues := Quad.const []
        defPower := 0, defService := 0, turn := .power, quantumAdded := false
        tx := (match lp.tx with | .telegram _ => .abort | x => x), drops := drops }).consistPortLost p ∧
      ∀ k : Cls, (drops.get (clsIdx k)).toNat =
        min 65535 ((lp.drops.get (clsIdx k)).toNat + (traffic.filter fun q => q.cls = k).length)

/-- R8, R9, R13, R15, R16, R71 and R74: the silence timer, and what leaving UP entails. -/
def Obligations.LinkLost : Prop :=
  Says.SilenceTimer ∧ Says.LeaveUp

/-- R11, R12, R6 and R18: a window end grades both ports, P1 first (log entry 28), and publishes the LINK
page once. -/
def Obligations.QualityWindows : Prop :=
  (∀ s : State, exec .qualityWindowEnd s = .next (s.does s.blk fun e =>
    ((e.portWindowEnd .p1).portWindowEnd .p2).ask .link)) ∧
  ∀ (e : Ev) (p : Port),
    let lp := e.port p
    let closed : LinkPort := { lp with lastErr := lp.winErr, winErr := 0 }
    let bad := e.profile.q < lp.winErr.toNat
    let r := e.portWindowEnd p
    (lp.state = .dead ∨ lp.state = .settling → r = e.setPort p closed) ∧
    (lp.state = .up →
      (¬ bad → r = e.setPort p { closed with badRun := 0 }) ∧
      (bad → lp.badRun < 2 → r = e.setPort p { closed with badRun := lp.badRun + 1 }) ∧
      (bad → 2 ≤ lp.badRun →
        r = (e.setPort p { closed with badRun := 3, cleanRun := 0 }).leaveUp p .faulted .quality)) ∧
    (lp.state = .faulted →
      (lp.winErr ≠ 0 → r = e.setPort p { closed with cleanRun := 0 }) ∧
      (lp.winErr = 0 → lp.cleanRun < 9 → r = e.setPort p { closed with cleanRun := lp.cleanRun + 1 }) ∧
      (lp.winErr = 0 → 9 ≤ lp.cleanRun →
        r = ((e.setPort p { closed with state := .settling, nbrId := 0, nbrEnd := 0, settle := 0
                                        silence := .running e.tick, cleanRun := 0 }).notice .linkChange
              (hiLo (portNum p) 1) (hiLo 3 6)).ask .link))

/-! ## Consist block -/

/-- R22, R21, R143, R120 and R155: an install at the lead: the next generation, the table with own position 1, a
fresh demand table, no grant set, the judgement set aside and published, the grant dropped. The place of the publication is log entry 7. -/
def Says.InstallAtLead : Prop :=
  ∀ (e : Ev) (cab : Port) (xs : List SweepEntry),
    let c := e.consist
    let g : Byte := if c.lastGen = 255 then 1 else c.lastGen + 1
    let t : LiveTable :=
      { entries := xs, pos := 1, gen := g, leadId := e.profile.identity, toward := cab }
    let r := e.installLead cab xs
    g ≠ 0 ∧
    r.toBlocks = { e.toBlocks with
      consist := { c with table := some t, lastGen := g }
      heater := { e.heater with status := .absent, g := 0, number := 0, flags := 0, age := 0 }
      alloc := { e.alloc with
        grants := none
        table := some (xs.map fun x => { r := x.r.toNat, f := x.f.toNat, s := x.s.toNat, demanded := false
                                         d := 0, draw := 0, flags := 0, refreshed := false, age := 0 }) }
      summary := { e.summary with
        result := .unknown .noSummary, total := {}, judged := false, age := .stopped } } ∧
    r.effects = e.effects ++ [r.toBlocks.shows .door] ∧ r.asks = [.heat] ++ e.asks

/-- R30 and R31: an attempt of a sweep at the lead: the SWEEP with this car's entry, or the train of the lead
alone when the train-ward port is not UP. -/
def Says.SweepAttempt : Prop :=
  ∀ (e : Ev) (cab : Port) (k : Nat),
    let c := e.consist
    let num : Byte := if c.sweepCounter = 255 then 1 else c.sweepCounter + 1
    let f := e.profile
    let entry : SweepEntry :=
      { id := f.identity, towardEnd := byte (portNum cab), doorsLeft := byte f.doorsLeft
        doorsRight := byte f.doorsRight
        flags := byte (flagNat f.cab1 + 2 * flagNat f.cab2 + 4 * flagNat f.sensor +
          8 * flagNat (decide (f.identity = 0)))
        r := byte f.r, f := byte f.f, s := byte f.s }
    (e.isUp (portOther cab) = true → e.beginAttempt cab k =
      (e.setConsist { c with
        sweepCounter := num, settleT := .stopped, attemptLead := f.identity, sweep := .awaitReturn k
        returnT := .running e.tick, periodT := .stopped }).sendFamily (portOther cab) .sweep
        (identBytes f.identity ++ [num, 1] ++ entryBytes entry)) ∧
    (e.isUp (portOther cab) = false →
      let e1 := (e.setConsist { c with sweepCounter := num, settleT := .stopped }).installLead cab [entry]
      e.beginAttempt cab k =
        (((e1.endSweep (.formed e1.liveGen 1)).noteInstalled).publishNow .consist).startBeacons)

/-- R38: the end of an attempt by timeout or loss of a link, and the failure of a sweep: DISSOLVE, the table of
the lead alone, the outcome, the notices, the page, the beacons. -/
def Says.AttemptEnds : Prop :=
  ∀ (e : Ev) (cab : Port) (why : FailReason) (pos k : Nat),
    e.consist.sweep = .awaitReturn k → 1 ≤ k → k ≤ 3 →
    (k < 3 → e.retryOrFail cab k why pos = e.beginAttempt cab (k + 1)) ∧
    (k = 3 → e.retryOrFail cab k why pos = e.failSweep cab why pos) ∧
    let e1 := (e.sendFamily (portOther cab) .dissolve [e.liveGen]).installLead cab [e.toBlocks.ownEntry cab]
    e.failSweep cab why pos =
      ((((e1.endSweep (.failed why pos)).notice .sweepFailed (hiLo (failReasonNum why) k)
        (word pos)).noteInstalled).publishNow .consist).startBeacons

/-- R35 step 4, R38 step 4 and R27: a sweep ends: state NONE, the outcome kept, a waiting START_SWEEP DONE with
it in its detail words. -/
def Says.SweepEnds : Prop :=
  ∀ (e : Ev) (o : SweepOutcome),
    let c := e.consist
    let d : Word × Word := match o with
      | .absent => (0, 0)
      | .formed g n => (0x0100, hiLo g.toNat n)
      | .failed why pos => (0x0200 + word (failReasonNum why), word pos)
    let e1 := e.setConsist { c with returnT := .stopped, sweep := .idle, outcome := o, sweepSlot := none }
    (c.sweepSlot = none → e.endSweep o = e1) ∧
    ∀ n, c.sweepSlot = some n → e.endSweep o = e1.emit (.complete n d.1 d.2 0)

/-- R22, R30, R31, R35 and R38: a sweep at the lead begins, ends and installs its table. -/
def Obligations.SweepAtLead : Prop :=
  Says.InstallAtLead ∧ Says.SweepAttempt ∧ Says.AttemptEnds ∧ Says.SweepEnds

/-- R41: a beacon of the lead: its number, payload and stationary flag, the next number, and the lead's own
consumers of it before its delivery (log entry 8), after its port copy and in an order among themselves (log
entry 9). Which number a new lead sends first is log entry 40. -/
def Says.BeaconSent : Prop :=
  ∀ (e : Ev),
    let c := e.consist
    let n := c.beaconNo
    let stopped := decide (e.motion.state = .stopped)
    let o : Outgoing := { kind := .beacon, cls := .control, mode := .all
                          payload := wordBytes n ++ identBytes e.profile.identity ++ [byte (flagNat stopped)] }
    let x := (e.setConsist { c with
      beaconNo := if n.toNat = 59999 then 0 else n + 1, lastStationary := stopped }).originate o
    n.toNat < 60000 →
      e.sendBeacon = ((((x.1.summaryBeacon n).ownDemand n).allocBeacon n).monitorBeacon).offerLocal x.2.localTel ∧
      e.startBeacons = (e.setConsist { c with periodT := .running e.tick }).sendBeacon

/-- R38, R41 and R47: the lead's timers. An expiry of a stopped timer is none (log entry 6). -/
def Says.LeadTimers : Prop :=
  ∀ s : State,
    let c := s.blk.consist
    (c.returnT = .stopped → exec .returnTimerExpiry s = .next s) ∧
    (∀ a k t, c.returnT = .running a → c.sweep = .awaitReturn k → c.table = some t →
      exec .returnTimerExpiry s = .next (s.does s.blk fun e => e.retryOrFail t.toward k .noReturn 1)) ∧
    (c.periodT = .stopped → exec .beaconPeriodExpiry s = .next s) ∧
    (∀ a, c.periodT = .running a → exec .beaconPeriodExpiry s = .next (s.does s.blk fun e => e.startBeacons)) ∧
    (c.settleT = .stopped → exec .settleTimerExpiry s = .next s) ∧
    ∀ a t, c.settleT = .running a → c.sweep = .resweepWait → c.table = some t →
      exec .settleTimerExpiry s = .next (s.does s.blk fun e => e.beginAttempt t.toward 1)

/-- R39, R42, R155 and R161: the carry timer, and the beacon watch, whose expiry drops the table and with it the
grant. An expiry of a stopped timer is none (log entry 6). -/
def Says.FollowerTimers : Prop :=
  ∀ s : State,
    let c := s.blk.consist
    let h := { s.blk.heater with status := .absent, g := 0, number := 0, flags := 0, age := 0 }
    (c.carryT = .stopped → exec .carryTimerExpiry s = .next s) ∧
    (∀ a, c.carryT = .running a → c.sweep = .carrying → exec .carryTimerExpiry s = .next (s.after
      { s.blk with consist := { c with
          carry := none, pendingTable := none, carryT := .stopped, sweep := .idle
          watchT := if c.role = .follower then .running s.blk.tick else c.watchT } } [])) ∧
    (c.watchT = .stopped → exec .beaconWatchExpiry s = .next s) ∧
    ∀ a t, c.watchT = .running a → c.role = .follower → c.table = some t → c.sweep = .idle →
      let b : Blocks := { s.blk with
        heater := h
        consist := { c with table := none, role := .alone, watchT := .stopped, carry := none
                            pendingTable := none, carryT := .stopped } }
      exec .beaconWatchExpiry s = .next (s.after b
        [b.shows .consist, b.tells .consistLost (hiLo 3 t.gen.toNat) (word t.pos), b.shows .heat])

/-- R40: the lead contest on an arriving SWEEP of lead identity y and number num. A number 0 is compared by the
formula as any other (log entry 17). -/
def Says.LeadContest : Prop :=
  ∀ (c : Consist) (own y : Ident) (num : Byte),
    (y = 0 → contestOf c own y num = .discards) ∧
    (y ≠ 0 →
      (∀ k, c.carry = some k →
        (y < k.leadId → contestOf c own y num = .abandons) ∧
        (k.leadId < y → contestOf c own y num = .discards) ∧
        (y = k.leadId → contestOf c own y num =
          if 1 ≤ (num.toNat + 255 - k.number.toNat) % 255 ∧ (num.toNat + 255 - k.number.toNat) % 255 ≤ 127
          then .passes else .discards)) ∧
      (c.carry = none →
        (c.role = .lead → contestOf c own y num = if y < own then .abandons else .discards) ∧
        (∀ t, c.role = .follower → c.table = some t →
          (y < t.leadId → contestOf c own y num = .abandons) ∧
          (y = t.leadId → contestOf c own y num = .passes) ∧
          (t.leadId < y → contestOf c own y num = .discards)) ∧
        (c.role = .alone → contestOf c own y num = .passes)))

/-- R40, the abandoning of X: a LEAD deactivates without DISSOLVE, a FOLLOWER drops its table, an ALONE car
ends its carry. What leaving LEAD does to the summary, allocation and heater records is R120, R143 with R152, and
R155, which also asks for the HEAT page; every other item of the car stands. That judged goes to no with it is log
entry 36, the order of the publications log entry 7. -/
def Says.LeadAbandoned : Prop :=
  ∀ (e : Ev) (y : Ident),
    let c := e.consist
    (c.role = .lead → e.abandonLead y =
      ((match c.sweep with
        | .awaitReturn _ => e.endSweep (.failed .contestLost 1)
        | _ => e).leaveLead).notice .leadContestLost (hiHalf y) (loHalf y)) ∧
    (∀ t, c.role = .follower → c.table = some t → e.abandonLead y = e.loseTable .contest t) ∧
    (c.role = .alone → e.abandonLead y = e.setConsist { c with
      carry := none, pendingTable := none, carryT := .stopped
      sweep := if c.sweep = .carrying then .idle else c.sweep }) ∧
    let r := e.leaveLead
    r.toBlocks = { e.toBlocks with
      consist := { c with cabEnd := none, table := none, role := .alone, sweep := .idle
                          returnT := .stopped, periodT := .stopped, settleT := .stopped }
      heater := { e.heater with status := .absent, g := 0, number := 0, flags := 0, age := 0 }
      alloc := { e.alloc with table := none, grants := none }
      summary := { e.summary with
        result := .unknown .noSummary, judged := false, age := .stopped
        total := { beacon := 0, covered := 0, openCount := 0, faulted := 0, refused := 0, list := []
                   more := false } } } ∧
    r.effects = e.effects ++ [r.toBlocks.shows .door, r.toBlocks.shows .consist] ∧
    r.asks = [.heat] ++ e.asks

/-- R40: the lead contest and what abandoning entails. -/
def Obligations.Contest : Prop :=
  Says.LeadContest ∧ Says.LeadAbandoned

/-- R32, R33 and R40: a SWEEP telegram: discarded, refused with SWEEP_FAIL, or taken up; the telegram is offered
for delivery after its consumer. -/
def Obligations.SweepTelegram : Prop :=
  ∀ (p : Port) (t : Telegram) (k : Sane) (b : SweepBody) (s : State), s.blk.hears p t k →
    k.kind = .sweep → parseSweep t.payload = some b →
    let c := s.blk.consist
    let verdict := contestOf c s.blk.profile.identity b.leadId b.number
    let judged (e : Ev) : Ev := if verdict = .abandons then e.abandonLead b.leadId else e
    let m := b.entries.length
    let lp := s.blk.port p
    let mine := s.blk.profile.identity
    let run (g : Ev → Ev) := exec (.sweepTelegram p t) s =
      .next (s.does s.blk fun e => (g e).offer (portNum p) t)
    (verdict = .discards → run fun e => e) ∧
    (verdict ≠ .discards → 32 ≤ m →
      run fun e => (judged e).sendFamily p .sweepFail (identBytes b.leadId ++ [b.number, 1, 33])) ∧
    (verdict ≠ .discards → m < 32 → ∀ x, b.entries.getLast? = some x →
      let end1 : Byte := if x.towardEnd = 2 then 1 else 2
      let wrong := x.id ≠ lp.nbrId ∨ lp.nbrEnd ≠ end1 ∨ (mine ≠ 0 ∧ ∃ y ∈ b.entries, y.id = mine)
      (wrong → run fun e =>
        (judged e).sendFamily p .sweepFail (identBytes b.leadId ++ [b.number, 2, byte (m + 1)])) ∧
      (¬ wrong → run fun e =>
        let e1 := judged e
        let list := b.entries ++ [s.blk.ownEntry p]
        let c1 : Consist := { e1.consist with
          sweep := .carrying, carryT := .running s.blk.tick, watchT := .stopped
          carry := some { leadId := b.leadId, number := b.number, port := p, pos := m + 1 } }
        let out := identBytes b.leadId ++ [b.number, byte (m + 1)] ++ list.flatMap entryBytes
        if s.blk.isUp (portOther p) then
          (e1.setConsist { c1 with pendingTable := none }).sendFamily (portOther p) .sweep out
        else (e1.setConsist { c1 with pendingTable := some list }).sendFamily p .ret out))

/-- R34: a RETURN at a carrying car that is not LEAD. Its consumer comes before its delivery (log entry 8). -/
def Says.ReturnCarried : Prop :=
  ∀ (p : Port) (t : Telegram) (k : Sane) (b : SweepBody) (y : Carry) (s : State), s.blk.hears p t k →
    k.kind = .ret → parseSweep t.payload = some b → s.blk.consist.role ≠ .lead →
    s.blk.consist.carry = some y → 1 ≤ y.pos →
    let run (g : Ev → Ev) := exec (.returnTelegram p t) s =
      .next (s.does s.blk fun e => (g e).offer (portNum p) t)
    let mine := p ≠ y.port ∧ b.leadId = y.leadId ∧ b.number = y.number
    let bears := ∃ x, b.entries[y.pos - 1]? = some x ∧ x.id = s.blk.profile.identity
    (¬ mine → run fun e => e) ∧
    (mine → bears → run fun e =>
      (e.setConsist { e.consist with pendingTable := some b.entries }).sendFamily y.port .ret t.payload) ∧
    (mine → ¬ bears → run fun e =>
      e.sendFamily y.port .sweepFail (identBytes y.leadId ++ [y.number, 2, byte y.pos]))

/-- R35: a RETURN at the lead in AWAIT_RETURN with the id of its attempt, checked and completed or failed. That
the attempt is known by the identity it was sent with is log entry 18, and that the consumer comes before the
delivery log entry 8. -/
def Says.ReturnAtLead : Prop :=
  ∀ (p : Port) (t : Telegram) (k : Sane) (b : SweepBody) (tb : LiveTable) (s : State), s.blk.hears p t k →
    k.kind = .ret → parseSweep t.payload = some b → s.blk.consist.role = .lead →
    s.blk.consist.table = some tb →
    let c := s.blk.consist
    let cab := tb.toward
    let lp := s.blk.port p
    let mine := (∃ a, c.sweep = .awaitReturn a) ∧ p ≠ cab ∧ b.leadId = c.attemptLead ∧
      b.number = c.sweepCounter
    let checks := ∃ x1 x2 rest, b.entries = x1 :: x2 :: rest ∧ b.entries.length ≤ 32 ∧
      x1.id = s.blk.profile.identity ∧ x1.towardEnd = byte (portNum cab) ∧
      x2.id = lp.nbrId ∧ lp.nbrEnd = x2.towardEnd ∧ distinctIds b.entries = true
    let run (g : Ev → Ev) := exec (.returnTelegram p t) s =
      .next (s.does s.blk fun e => (g e).offer (portNum p) t)
    (¬ mine → run fun e => e) ∧
    (mine → ¬ checks → run fun e => e.failSweep cab .inconsistent 1) ∧
    (mine → checks → run fun e =>
      let e1 := e.installLead cab b.entries
      let e2 := e1.sendFamily p .confirm
        (identBytes b.leadId ++ [b.number, e1.liveGen, byte b.entries.length])
      (((e2.endSweep (.formed e1.liveGen b.entries.length)).publishNow .consist).noteInstalled).startBeacons)

/-- R37 and R38: a SWEEP_FAIL at a carrying car, and at the lead in AWAIT_RETURN with the id of its attempt (log
entries 17 and 18); its consumer comes before its delivery (log entry 8). -/
def Says.SweepFailTelegram : Prop :=
  ∀ (p : Port) (t : Telegram) (k : Sane) (b : FailBody) (s : State), s.blk.hears p t k →
    k.kind = .sweepFail → parseFail t.payload = some b →
    let c := s.blk.consist
    let run (g : Ev → Ev) := exec (.sweepFailTelegram p t) s =
      .next (s.does s.blk fun e => (g e).offer (portNum p) t)
    (∀ y, c.role ≠ .lead → c.carry = some y →
      (p ≠ y.port ∧ b.leadId = y.leadId ∧ b.number = y.number →
        run fun e => (e.sendFamily y.port .sweepFail t.payload).endCarry) ∧
      (¬ (p ≠ y.port ∧ b.leadId = y.leadId ∧ b.number = y.number) → run fun e => e)) ∧
    (c.role ≠ .lead → c.carry = none → run fun e => e) ∧
    ∀ tb a, c.role = .lead → c.table = some tb → c.sweep = .awaitReturn a →
      let mine := p ≠ tb.toward ∧ b.leadId = c.attemptLead ∧ b.number = c.sweepCounter
      (¬ mine → run fun e => e) ∧
      (mine → b.reason = 1 → run fun e => e.failSweep tb.toward .tooLong b.pos.toNat) ∧
      (mine → b.reason = 2 → run fun e => e.failSweep tb.toward .inconsistent b.pos.toNat) ∧
      (mine → b.reason = 3 → run fun e => e.retryOrFail tb.toward a .linkLost b.pos.toNat) ∧
      (mine → b.reason ≠ 1 → b.reason ≠ 2 → b.reason ≠ 3 → run fun e => e)

/-- R29, R34, R35, R37 and R38: a RETURN at a car that neither carries nor leads, and a SWEEP_FAIL at a lead outside
AWAIT_RETURN, are discarded; each is still offered for delivery (R57, log entry 8). -/
def Says.AnswersDiscarded : Prop :=
  ∀ (p : Port) (t : Telegram) (k : Sane) (s : State), s.blk.hears p t k →
    let c := s.blk.consist
    (∀ b, k.kind = .ret → parseSweep t.payload = some b → c.role ≠ .lead → c.carry = none →
      exec (.returnTelegram p t) s = .next (s.does s.blk fun e => e.offer (portNum p) t)) ∧
    ∀ b tb, k.kind = .sweepFail → parseFail t.payload = some b → c.role = .lead → c.table = some tb →
      c.sweep = .idle ∨ c.sweep = .resweepWait →
      exec (.sweepFailTelegram p t) s = .next (s.does s.blk fun e => e.offer (portNum p) t)

/-- R34, R35, R37 and R38: RETURN and SWEEP_FAIL at a carrying car, at the lead, and at any other. -/
def Obligations.SweepAnswers : Prop :=
  Says.ReturnCarried ∧ Says.ReturnAtLead ∧ Says.SweepFailTelegram ∧ Says.AnswersDiscarded

/-- R36, R45, R46 and R48: a CONFIRM at a carrying car: discarded, or the pending table installed, the CONFIRM sent
on below N, the page published, and the install checks made; the notices stand before the delivered telegram (log
entry 8). -/
def Says.ConfirmTelegram : Prop :=
  ∀ (p : Port) (t : Telegram) (k : Sane) (b : ConfirmBody) (s : State), s.blk.hears p t k →
    k.kind = .confirm → parseConfirm t.payload = some b →
    let c := s.blk.consist
    let run (g : Ev → Ev) := exec (.confirmTelegram p t) s =
      .next (s.does s.blk fun e => (g e).offer (portNum p) t)
    (c.carry = none ∨ c.pendingTable = none → run fun e => e) ∧
    ∀ y x xs, c.carry = some y → c.pendingTable = some (x :: xs) → c.sweep = .carrying →
      let n := (x :: xs).length
      let mine := p = y.port ∧ b.leadId = y.leadId ∧ b.number = y.number ∧ b.n.toNat = n
      let tb : LiveTable := { entries := x :: xs, pos := y.pos, gen := b.gen, leadId := x.id, toward := y.port }
      let c1 : Consist := { c with
        table := some tb, lastGen := b.gen, role := .follower, sweep := .idle, carry := none
        pendingTable := none, carryT := .stopped, watchT := .running s.blk.tick }
      (¬ mine → run fun e => e) ∧
      (mine → run fun e =>
        let e1 := ((e.setConsist c1).setHeater { e.heater with
          status := .absent, g := 0, number := 0, flags := 0, age := 0 }).ask .heat
        let e2 := if y.pos < n then e1.sendFamily (portOther p) .confirm t.payload else e1
        let e3 := (e2.publishNow .consist).notice .consistInstalled (hiLo b.gen.toNat n) (hiLo y.pos (portNum p))
        if y.pos < n then if s.blk.isUp (portOther p) then e3 else e3.sendBreak
        else if s.blk.isUp (portOther p) then e3.join .newNeighbour else e3)

/-- R44: a DISSOLVE at a follower's toward-lead port with its generation is sent on below N and drops the table;
any other is discarded. Its notice stands before the delivered telegram (log entry 8). -/
def Says.DissolveTelegram : Prop :=
  ∀ (p : Port) (t : Telegram) (k : Sane) (g : Byte) (s : State), s.blk.hears p t k →
    k.kind = .dissolve → t.payload = [g] →
    let c := s.blk.consist
    let run (f : Ev → Ev) := exec (.dissolveTelegram p t) s =
      .next (s.does s.blk fun e => (f e).offer (portNum p) t)
    (c.role ≠ .follower → run fun e => e) ∧
    ∀ tb, c.role = .follower → c.table = some tb →
      (p ≠ tb.toward ∨ g ≠ tb.gen → run fun e => e) ∧
      (p = tb.toward → g = tb.gen → run fun e =>
        (if tb.pos < tb.entries.length then e.sendFamily (portOther p) .dissolve [g] else e).loseTable
          .dissolved tb)

/-- R42 to R44, R48 and R155: the loss of a follower's table, shown at once. -/
def Says.TableLost : Prop :=
  ∀ (e : Ev) (why : LossReason) (t : LiveTable),
    let c := e.consist
    let r := e.loseTable why t
    r.toBlocks = { e.toBlocks with
      consist := { c with
        table := none, role := .alone, watchT := .stopped, carry := none, pendingTable := none
        carryT := .stopped, sweep := if c.sweep = .carrying then .idle else c.sweep }
      heater := { e.heater with status := .absent, g := 0, number := 0, flags := 0, age := 0 } } ∧
    r.effects = e.effects ++ [r.toBlocks.shows .consist,
      .notice .consistLost e.tick (hiLo (lossReasonNum why) t.gen.toNat) (word t.pos)] ∧
    r.asks = [.heat] ++ e.asks

/-- R36 and R42 to R44: CONFIRM installs a follower's table, DISSOLVE takes it away. -/
def Obligations.TableTelegrams : Prop :=
  Says.ConfirmTelegram ∧ Says.DissolveTelegram ∧ Says.TableLost

/-- R42, R112, R134 and R140 with R53 to R57: a BEACON of the live generation at a positioned car: what the
consist block of a FOLLOWER records, then the other consumers in the model's order (log entry 9), then delivery (log
entry 8), then the copy that goes on (log entry 9). That a BEACON from another car leaves a lead's record is log entry 37, that a number above 59999
is recorded as it came log entry 38. -/
def Says.BeaconTelegram : Prop :=
  ∀ (p : Port) (t : Telegram) (k : Sane) (b : BeaconBody) (tb : LiveTable) (s : State), s.blk.hears p t k →
    k.kind = .beacon → k.mode = .all → parseBeacon t.payload = some b → s.blk.consist.table = some tb →
    tb.admits p t k →
    let c := s.blk.consist
    let c1 : Consist := if c.role = .follower then { c with
        beaconNo := b.number, lastStationary := b.stationary, table := some { tb with leadId := b.leadId }
        watchT := if c.sweep = .carrying then c.watchT else .running s.blk.tick } else c
    exec (.beaconTelegram p t) s = .next (s.does { s.blk with consist := c1 } fun e =>
      let e1 := e.summaryBeacon b.number
      let e2 := if c.role ≠ .lead ∧ b.number.toNat % 10 = 0 then e1.sendDemand else e1
      let e3 := e2.monitorBeacon.offer (portNum p) t
      if dueForward tb p .all t.hdr.dstLo.toNat t.hdr.dstHi.toNat then e3.forward p k.cls t else e3)

/-- R112 with R110, R116 and R117: a beacon at the summary block: a chain end originates a SUMMARY with its own
contribution to an empty total, which the lead judges at once, before the delivery of its local copy (log entry 8);
any other car does nothing. -/
def Says.BeaconAtSummary : Prop :=
  ∀ (e : Ev) (n : Word),
    (e.consist.table = none → e.summaryBeacon n = e) ∧
    ∀ tb, e.consist.table = some tb →
      let chainEnd := tb.pos = tb.entries.length ∨
        (tb.pos < tb.entries.length ∧ e.isUp (portOther tb.toward) = false)
      let total := e.toBlocks.contribute
        { beacon := n, covered := 0, openCount := 0, faulted := 0, refused := 0, list := [], more := false }
      let x := e.originate { kind := .summary, cls := .safety, mode := .lead, payload := summaryPayload total }
      (¬ chainEnd → e.summaryBeacon n = e) ∧
      (chainEnd →
        (∀ t, x.2.localTel = some t → e.summaryBeacon n = (x.1.judge total).offer 0 t) ∧
        (x.2.localTel = none → x.2.report.placed = 0 → e.summaryBeacon n = x.1) ∧
        (x.2.localTel = none → x.2.report.placed ≠ 0 → e.summaryBeacon n =
          (x.1.setDoors { x.1.doors with latch := false }).doorsSettled x.1.toBlocks))

/-- R140 and R141: a beacon whose number is 0 (mod 10) at the demand computer: a car other than the lead sends
DEMAND, the lead writes its entry at position 1; on any other number nothing happens. -/
def Says.BeaconAtDemand : Prop :=
  ∀ (e : Ev) (n : Word),
    let d := e.demand.d
    let draw := word e.toBlocks.draw
    let a := e.converter.chA.state
    let flags := byte (flagNat e.heater.latch + if a = .noCode ∨ a = .unavailable then 2 else 0)
    e.sendDemand = (e.originate { kind := .demand, cls := .power, mode := .lead
                                  payload := [d] ++ wordBytes draw ++ [flags] }).1 ∧
    (n.toNat % 10 ≠ 0 → e.demandBeacon n = e ∧ e.ownDemand n = e) ∧
    (n.toNat % 10 = 0 → e.demandBeacon n = e.sendDemand) ∧
    ∀ x rest, n.toNat % 10 = 0 → e.alloc.table = some (x :: rest) → e.ownDemand n =
      e.setAlloc { e.alloc with table := some ({ x with
        demanded := true, d := d.toNat, draw := draw.toNat, flags := flags, refreshed := true } :: rest) }

/-- R134: a beacon at the supply monitor: in mode ON_BEACON it starts a scan of the range unless one is in
progress. -/
def Says.BeaconAtMonitor : Prop :=
  ∀ e : Ev,
    let m := e.monitor
    (m.mode = .onBeacon → m.scan = .idle →
      e.monitorBeacon = e.setMonitor { m with scan := .scanning m.start [] }) ∧
    (m.mode ≠ .onBeacon ∨ m.scan ≠ .idle → e.monitorBeacon = e)

/-- R41, R42, R112, R134, R140 and R141: a beacon sent, a beacon received, and what it makes its consumers do. -/
def Obligations.Beacons : Prop :=
  Says.BeaconSent ∧ Says.BeaconTelegram ∧ Says.BeaconAtSummary ∧ Says.BeaconAtDemand ∧ Says.BeaconAtMonitor

/-- R47 with R55 to R57: a BREAK or JOIN of the live generation: at the lead it asks for a re-sweep, elsewhere it
only goes on toward the lead. That a JOIN does so whatever its reason byte holds is log entry 17. -/
def Says.BreakAndJoin : Prop :=
  ∀ (p : Port) (t : Telegram) (k : Sane) (tb : LiveTable) (s : State) (row : Instr), s.blk.hears p t k →
    (k.kind = .brk ∧ row = .breakTelegram p t) ∨ (k.kind = .join ∧ row = .joinTelegram p t) →
    k.mode = .lead → s.blk.consist.table = some tb → tb.admits p t k →
    let c := s.blk.consist
    (c.role = .lead → tb.pos = 1 → p ≠ tb.toward →
      (c.sweep = .idle → exec row s = .next (s.does
        { s.blk with consist := { c with sweep := .resweepWait, settleT := .running s.blk.tick } }
        fun e => e.offer (portNum p) t)) ∧
      (c.sweep ≠ .idle → exec row s = .next (s.does s.blk fun e => e.offer (portNum p) t))) ∧
    (2 ≤ tb.pos → p ≠ tb.toward → exec row s = .next (s.does s.blk fun e => e.forward p k.cls t)) ∧
    (2 ≤ tb.pos → p = tb.toward → exec row s = .next (s.does s.blk fun e => e.drop p k.cls))

/-- R45 and R46: the BREAK and the JOIN of a positioned car, by the reason of the JOIN: a new neighbour 1, a changed
profile 2; the lead acts on its own at once, and an ALONE car sends none. -/
def Says.ReportsSent : Prop :=
  ∀ e : Ev,
    let c := e.consist
    (∀ t, c.table = some t → e.sendBreak =
      (e.originate { kind := .brk, cls := .control, mode := .lead, payload := [byte t.pos] }).1) ∧
    ∀ why : JoinReason,
      let reason : Byte := match why with | .newNeighbour => 1 | .profileChanged => 2
      (c.role = .alone → e.join why = e) ∧
      (c.role = .lead → c.sweep = .idle →
        e.join why = e.setConsist { c with sweep := .resweepWait, settleT := .running e.tick }) ∧
      (c.role = .lead → c.sweep ≠ .idle → e.join why = e) ∧
      ∀ t, c.role = .follower → c.table = some t → e.join why =
        (e.originate { kind := .join, cls := .control, mode := .lead, payload := [byte t.pos, reason] }).1

/-- R13, R26, R37, R43, R45, R46 and R47: how the consist block takes a port that has left or entered UP, while
no sweep is carried. -/
def Says.PortReports : Prop :=
  ∀ (e : Ev) (p : Port) (t : LiveTable), e.consist.table = some t → e.consist.carry = none →
    let c := e.consist
    (c.role = .follower → p = t.toward → e.consistPortLost p =
      (e.sendFamily (portOther p) .dissolve [t.gen]).loseTable .link t) ∧
    (c.role = .follower → p ≠ t.toward → t.pos < t.entries.length → e.consistPortLost p = (e.originate
      { kind := .brk, cls := .control, mode := .lead, payload := [byte t.pos] }).1) ∧
    (c.role = .follower → p ≠ t.toward → t.entries.length ≤ t.pos → e.consistPortLost p = e) ∧
    (c.role = .lead → p = t.toward → e.consistPortLost p = e) ∧
    (c.role = .lead → p ≠ t.toward → c.sweep = .idle → 1 < t.entries.length →
      e.consistPortLost p = e.setConsist { c with sweep := .resweepWait, settleT := .running e.tick }) ∧
    (c.role = .lead → p ≠ t.toward → (c.sweep = .idle ∨ c.sweep = .resweepWait) → t.entries.length ≤ 1 →
      e.consistPortLost p = e) ∧
    (∀ k, c.role = .lead → p ≠ t.toward → c.sweep = .awaitReturn k →
      e.consistPortLost p = e.retryOrFail t.toward k .linkLost 1) ∧
    (c.role = .lead → p = t.toward → e.consistPortUp p =
      e.notice .cabEndCoupled (hiHalf (e.port p).nbrId) (loHalf (e.port p).nbrId)) ∧
    (c.role = .lead → p ≠ t.toward → c.sweep = .idle → e.consistPortUp p =
      e.setConsist { c with sweep := .resweepWait, settleT := .running e.tick }) ∧
    (c.role = .follower → p = t.toward → e.consistPortUp p = e) ∧
    (c.role = .follower → p ≠ t.toward → e.consistPortUp p = (e.originate
      { kind := .join, cls := .control, mode := .lead, payload := [byte t.pos, 1] }).1)

/-- R47 and R38: what a lead absorbs while its sweep state is not NONE, and that a car that is neither positioned nor
carrying takes no part in a report. -/
def Says.PortReportsAbsorbed : Prop :=
  ∀ (e : Ev) (p : Port),
    let c := e.consist
    (∀ t, c.table = some t → c.carry = none → c.role = .lead → p ≠ t.toward →
      (c.sweep = .resweepWait → e.consistPortLost p = e) ∧
      (c.sweep ≠ .idle → e.consistPortUp p = e)) ∧
    (c.table = none → e.consistPortUp p = e ∧ (c.carry = none → e.consistPortLost p = e))

/-- R37 with R43, R45 and R46: a car that carries a sweep k and is not LEAD: the loss of its other port before the
return gives SWEEP_FAIL LINK_LOST toward the lead and ends the carry, that of the carried port ends it in silence;
a follower then takes the loss as R43 and R45 give (that the SWEEP_FAIL stands first is log entry 9). A port entering
UP is taken as at a car that carries nothing. -/
def Says.PortReportsCarrying : Prop :=
  ∀ (e : Ev) (p : Port) (k : Carry), e.consist.carry = some k → e.consist.role ≠ .lead →
    let c := e.consist
    let ended (e : Ev) : Ev := e.setConsist { c with
      carry := none, pendingTable := none, carryT := .stopped
      sweep := if c.sweep = .carrying then .idle else c.sweep
      watchT := if c.role = .follower then .running e.tick else c.watchT }
    let after : Ev :=
      if p = k.port then ended e
      else if c.pendingTable = none then
        ended (e.sendFamily k.port .sweepFail (identBytes k.leadId ++ [k.number, 3, byte k.pos]))
      else e
    (c.role = .alone → e.consistPortLost p = after) ∧
    ∀ t, c.role = .follower → c.table = some t →
      (p = t.toward → e.consistPortLost p =
        (after.sendFamily (portOther p) .dissolve [t.gen]).loseTable .link t) ∧
      (p ≠ t.toward → t.pos < t.entries.length → e.consistPortLost p = (after.originate
        { kind := .brk, cls := .control, mode := .lead, payload := [byte t.pos] }).1) ∧
      (p ≠ t.toward → t.entries.length ≤ t.pos → e.consistPortLost p = after) ∧
      (p = t.toward → e.consistPortUp p = e) ∧
      (p ≠ t.toward → e.consistPortUp p = (e.originate
        { kind := .join, cls := .control, mode := .lead, payload := [byte t.pos, 1] }).1)

/-- R26, R37, R43 and R45 to R47: reports of the chain, and of this car's own ports. -/
def Obligations.PortsAndReports : Prop :=
  Says.BreakAndJoin ∧ Says.ReportsSent ∧ Says.PortReports ∧ Says.PortReportsAbsorbed ∧ Says.PortReportsCarrying

/-! ## Doors -/

/-- R90, R92, R108, R109 and R128: a contact event at a configured door. A contact make finds the door as
`closeLimit` leaves it: where a tick taken before it has reached the limit, the door enters LATE first (R91, log
entry 20). At an unconfigured door the level alone is kept (log entry 29). -/
def Says.ContactEvents : Prop :=
  ∀ (x : Side) (d : Fin 4) (s : State),
    let n := s.blk.profile.doorCount x
    let made (y : DoorRec) : DoorRec := match y.state with
      | .closed | .isolated => { y with contact := true }
      | .opened | .forced => { y with contact := true, state := .closed }
      | .closing | .late => { y with contact := true, state := .closed, lastClose := y.timer }
    let examined (r : SideRec) : SideRec :=
      let r1 := { r with doors := r.doors.set d (made (r.doors.get d)) }
      { r1 with closeReq := r.closeReq && (r1.configured n).any fun z =>
          z.state != .closed && z.state != .isolated }
    let r := s.blk.doors.side x
    let y := r.doors.get d
    let with' (z : DoorRec) : SideRec := { r with doors := r.doors.set d z }
    let opened : DoorRec :=
      if y.state ≠ .closed then { y with contact := false }
      else if r.release then { y with contact := false, state := .opened }
      else if r.closeReq then { y with contact := false, state := .closing, timer := 0, limitDue := none }
      else { y with contact := false, state := .forced }
    (d.val < n →
      exec (.contactMakes x d) s = .next (s.does s.blk fun e =>
        let e0 := e.closeLimit x d
        (e0.setDoors (e0.doors.setSide x (examined (e0.doors.side x)))).doorsSettled e0.toBlocks) ∧
      exec (.contactOpens x d) s = .next (s.does
        { s.blk with doors := s.blk.doors.setSide x (with' opened) } fun e =>
          (if y.state = .closed ∧ opened.state = .forced then
             e.notice .doorForced (hiLo (sideNum x) (d.val + 1)) (word s.blk.pos) else e).doorsSettled s.blk)) ∧
    (n ≤ d.val →
      exec (.contactMakes x d) s = .next (s.after
        { s.blk with doors := s.blk.doors.setSide x (with' { y with contact := true }) } []) ∧
      exec (.contactOpens x d) s = .next (s.after
        { s.blk with doors := s.blk.doors.setSide x (with' { y with contact := false }) } []))

/-- R91, R108 and R109: a CLOSING door whose timer a tick has found to have reached the limit in force at that tick
enters LATE, with its notice and its publication; otherwise nothing happens. The mark that says so is log
entry 20. -/
def Says.CloseLimit : Prop :=
  ∀ (x : Side) (d : Fin 4) (s : State),
    let r := s.blk.doors.side x
    let y := r.doors.get d
    let late : SideRec := { r with doors := r.doors.set d { y with state := .late, limitDue := none } }
    (∀ limit, d.val < s.blk.profile.doorCount x → y.state = .closing → y.limitDue = some limit →
      let b : Blocks := { s.blk with doors := s.blk.doors.setSide x late }
      exec (.closeLimitReached x d) s = .next (s.after b
        [.notice .doorLate s.blk.tick (hiLo (sideNum x) (d.val + 1)) limit, b.shows .door])) ∧
    (s.blk.profile.doorCount x ≤ d.val ∨ y.state ≠ .closing ∨ y.limitDue = none →
      exec (.closeLimitReached x d) s = .next s)

/-- R91: the limits that the events after a tick find due, one door or several (their order is log entry 20), and
the two orders of a contact make and the tick that brings the timer to the limit: the contact make taken after the
tick acts on the door as CLOSE_LIMIT_REACHED leaves it. -/
def Says.LimitsTaken : Prop :=
  (∀ (e : Ev) (x : Side) (d : Fin 4),
    let r := e.doors.side x
    let y := r.doors.get d
    let late : SideRec := { r with doors := r.doors.set d { y with state := .late, limitDue := none } }
    let e1 := e.setDoors (e.doors.setSide x late)
    (∀ limit, d.val < e.profile.doorCount x → y.state = .closing → y.limitDue = some limit →
      e.closeLimit x d =
        (e1.notice .doorLate (hiLo (sideNum x) (d.val + 1)) limit).emit (e1.toBlocks.shows .door)) ∧
    (e.profile.doorCount x ≤ d.val ∨ y.state ≠ .closing ∨ y.limitDue = none → e.closeLimit x d = e)) ∧
  (∀ (e : Ev) (x : Side),
    e.sideLimits x = [0, 1, 2, 3].foldl (fun a d => a.closeLimit x d) e ∧
    e.closeLimits = (e.sideLimits .left).sideLimits .right) ∧
  ∀ (x : Side) (d : Fin 4) (s t : State), exec (.closeLimitReached x d) s = .next t →
    exec (.contactMakes x d) s = exec (.contactMakes x d) t

/-- R108 and R128: what follows a change of the door records since `b`: the DOOR page when a state, an output or
the latch has changed, and the demand recomputed when the boost condition has. -/
def Says.DoorChangeFollows : Prop :=
  ∀ (e : Ev) (b : Blocks),
    let view (c : Blocks) :=
      ((c.doors.left.configured c.profile.doorsLeft ++ c.doors.right.configured c.profile.doorsRight).map
        fun x => x.state, c.doors.left.release, c.doors.left.closeReq, c.doors.right.release, c.doors.right.closeReq,
        c.doors.latch)
    let e1 := if view e.toBlocks = view b then e else e.ask .door
    let open1 (c : Blocks) := c.carDoors.any fun x => x.state == .opened || x.state == .forced
    (open1 e.toBlocks = open1 b → e.doorsSettled b = e1) ∧
    (open1 e.toBlocks ≠ open1 b → e.doorsSettled b = e1.setDemand e.toBlocks.formDemand)

/-- R90 to R92, R108, R109 and R128: what moves a door's state, and what follows. -/
def Obligations.DoorContacts : Prop :=
  Says.ContactEvents ∧ Says.CloseLimit ∧ Says.LimitsTaken ∧ Says.DoorChangeFollows

/-- R95 and R92: a CLOSE on a car-local side: the doors one by one, the outputs, and the close request kept on
exactly while a configured door is neither CLOSED nor ISOLATED. -/
def Says.DoorSideClosed : Prop :=
  ∀ (e : Ev) (x : Side),
    let n := e.profile.doorCount x
    let r := e.doors.side x
    ∃ r' : SideRec, e.closeSide x = (e.setDoors (e.doors.setSide x r')).doorsSettled e.toBlocks ∧
      r'.release = false ∧ r'.basis = .absent ∧
      (r'.closeReq = true ↔ ∃ y ∈ r'.configured n, y.state ≠ .closed ∧ y.state ≠ .isolated) ∧
      ∀ d : Fin 4, r'.doors.get d =
        let y := r.doors.get d
        if d.val < n ∧ (y.state = .opened ∨ y.state = .forced) then
          { y with state := .closing, timer := 0, limitDue := none }
        else y

/-- R96 to R98, R109, R184: a release of a car-local side: nothing at a side without doors; admitted with its basis,
or refused with the latch and the notice, whose words hold source, reason and side, and the motion state with, for a
telegram, its train side and flag. An admitted release finds the side's doors as `sideLimits` leaves them: a door
whose limit a tick taken before it has reached enters LATE first (R91, log entry 20). -/
def Says.DoorSideReleased : Prop :=
  ∀ (e : Ev) (x : Side) (flag : Bool) (basis : Basis) (src : ReleaseSource),
    let n := e.profile.doorCount x
    let m := e.motion.state
    let e0 := e.sideLimits x
    let admitted (b : Basis) := ∃ r' : SideRec,
      e.releaseSide x flag basis src = ((e0.setDoors (e0.doors.setSide x r')).doorsSettled e0.toBlocks, none) ∧
      r'.release = true ∧ r'.closeReq = false ∧ r'.basis = b ∧
      ∀ d : Fin 4, r'.doors.get d =
        let y := (e0.doors.side x).doors.get d
        if d.val < n ∧ (y.state = .closing ∨ y.state = .late ∨ y.state = .forced) then
          { y with state := .opened } else y
    let told (why : ResultCode) : Word × Word := match src with
      | .telegram side given => (word (16384 * 1 + 256 * resultCodeNum why + sideNum x),
          word (256 * motionStateNum m + 16 * side + flagNat given))
      | .command => (word (16384 * 2 + 256 * resultCodeNum why + sideNum x), word (256 * motionStateNum m))
    let refused (why : ResultCode) := e.releaseSide x flag basis src =
      (((e.setDoors { e.doors with latch := true }).notice .doorRefused (told why).1 (told why).2).doorsSettled
        e.toBlocks, some why)
    (n = 0 → e.releaseSide x flag basis src = (e, none)) ∧
    (n ≠ 0 →
      (m = .stopped → admitted .sensor) ∧
      (m = .moving → refused .moving) ∧
      (m = .unknown ∨ m = .faulted → refused .motionUnknown) ∧
      (m = .unfitted → flag = true → admitted basis) ∧
      (m = .unfitted → flag = false → refused .notStationary))

/-- R99 and R109: a withdrawal closes every released side, counts the doors that were open, and raises
MOTION_WITHDRAW; without a release it does nothing. -/
def Says.Withdrawal : Prop :=
  ∀ (e : Ev),
    let l := e.doors.left
    let r := e.doors.right
    let nl := e.profile.doorsLeft
    let nr := e.profile.doorsRight
    let stillOpen (q : SideRec) (n : Nat) := ((q.configured n).filter fun y =>
      y.state != .closed && y.state != .isolated).length
    (l.release = false → r.release = false → e.withdraw = e) ∧
    (l.release = true ∨ r.release = true →
      e.withdraw =
        ((e.setDoors { e.doors with
            left := if l.release then l.close nl else l
            right := if r.release then r.close nr else r }).notice .motionWithdraw
          (hiLo (flagNat l.release + 2 * flagNat r.release) (motionStateNum e.motion.state))
          (word ((if l.release then stillOpen l nl else 0) + if r.release then stillOpen r nr else 0))).doorsSettled
          e.toBlocks)

/-- R95 to R99 and R109: a side closed, released, withdrawn. -/
def Obligations.DoorSides : Prop :=
  Says.DoorSideClosed ∧ Says.DoorSideReleased ∧ Says.Withdrawal

/-- R55 to R57: a DOOR telegram of the live generation at a car outside its range: it only goes on where due, and is
dropped as misrouted otherwise. -/
def Says.DoorElsewhere : Prop :=
  ∀ (p : Port) (t : Telegram) (k : Sane) (tb : LiveTable) (s : State),
    s.blk.hears p t k → k.kind = .door → s.blk.consist.table = some tb → tb.admits p t k →
    addressed tb k.mode t.hdr.dstLo.toNat t.hdr.dstHi.toNat = false →
    let onward := dueForward tb p k.mode t.hdr.dstLo.toNat t.hdr.dstHi.toNat
    (onward = true → exec (.doorTelegram p t) s = .next (s.does s.blk fun e => e.forward p k.cls t)) ∧
    (onward = false → exec (.doorTelegram p t) s = .next (s.does s.blk fun e => e.drop p k.cls))

/-- R94 and R101 with R53 to R57: a DOOR telegram of the live generation at a car of its range: CLOSE (2) and
RELEASE (1) of the translated side, any other payload ignored; then delivery (log entry 8) and the copy that goes on
(log entry 9). The flag is read as bit 0 of its byte (log entry 14). -/
def Says.DoorAddressed : Prop :=
  ∀ (p : Port) (t : Telegram) (k : Sane) (tb : LiveTable) (s : State) (action side flag : Byte),
    s.blk.hears p t k → k.kind = .door → s.blk.consist.table = some tb → tb.admits p t k →
    t.payload = [action, side, flag] →
    addressed tb k.mode t.hdr.dstLo.toNat t.hdr.dstHi.toNat = true →
    let run (g : Ev → Ev) := exec (.doorTelegram p t) s = .next (s.does s.blk fun e =>
      let e1 := (g e).offer (portNum p) t
      if dueForward tb p k.mode t.hdr.dstLo.toNat t.hdr.dstHi.toNat then e1.forward p k.cls t else e1)
    let turned := tb.toward = .p2
    let here (x : Side) : Side := if turned then (match x with | .left => .right | .right => .left) else x
    (action = 2 → side = 1 → run fun e => e.closeSide (here .left)) ∧
    (action = 2 → side = 2 → run fun e => e.closeSide (here .right)) ∧
    (action = 2 → side = 3 → run fun e => (e.closeSide (here .left)).closeSide (here .right)) ∧
    (∀ x : Side, action = 1 → side = byte (sideNum x) → run fun e =>
      (e.releaseSide (here x) (flag.getLsbD 0) .flag (.telegram (sideNum x) (flag.getLsbD 0))).1) ∧
    ((action ≠ 1 ∧ action ≠ 2) ∨ side = 0 ∨ 3 < side.toNat ∨ (action = 1 ∧ side = 3) → run fun e => e)

/-- R94, R101 and R53 to R57: a DOOR telegram of the live generation, at a car of its range and at any other. -/
def Obligations.DoorTelegram : Prop :=
  Says.DoorAddressed ∧ Says.DoorElsewhere

/-! ## Motion counter -/

/-- R76 and R78: a valid transition follows the reference pair and counts in every state but UNFITTED, held
within the bounds. -/
def Says.EncoderTransition : Prop :=
  ∀ (ph : EncPhase) (s : State),
    let m := s.blk.motion
    let a := if ph = .a then !m.refA else m.refA
    let b := if ph = .b then !m.refB else m.refB
    let plus := (m.refA, m.refB, a, b) ∈
      [(false, false, true, false), (true, false, true, true), (true, true, false, true),
       (false, true, false, false)]
    let c := m.count + if plus then 1 else -1
    let m1 : Motion := { m with refA := a, refB := b }
    exec (.encoderTransition ph) s = .next (s.after { s.blk with motion :=
      if m.state = .unfitted then m1
      else if c < -32767 ∨ 32767 < c then { m1 with saturated := true }
      else { m1 with count := c } } [])

/-- R77 with R76: an illegal transition. -/
def Says.IllegalTransition : Prop :=
  ∀ s : State,
    let m := s.blk.motion
    let m1 : Motion := { m with refA := !m.refA, refB := !m.refB }
    let n : Word := if m.illegal = 65535 then 65535 else m.illegal + 1
    exec .illegalTransition s = .next (s.after { s.blk with motion :=
      match m.state with
      | .unfitted => m1
      | .faulted => { m1 with illegal := n, clean := 0 }
      | .unknown | .stopped | .moving => { m1 with illegal := n } } [])

/-- R79 with R80, R81, R84: the record after a window end. -/
def Says.WindowRecord : Prop :=
  ∀ (m : Motion) (z : Nat) (o : Option Port),
    let w : Motion := { m with
      lastDelta := m.count, lastIllegal := m.illegal, lastSaturated := m.saturated
      count := 0, illegal := 0, saturated := false, odometer := m.odometer + BitVec.ofInt 32 m.count }
    let moved := z < m.count.natAbs
    let ill := m.illegal.toNat
    let judged : Motion := match m.state with
      | .unfitted => w
      | .faulted =>
        if ill ≠ 0 then { w with clean := 0 }
        else if m.clean < 9 then { w with clean := m.clean + 1 }
        else { w with clean := 10, state := .unknown, quiet := 0 }
      | .stopped =>
        if 4 < ill then { w with state := .faulted, quiet := 0, clean := 0 }
        else if moved then { w with state := .moving, quiet := 0 }
        else w
      | .unknown | .moving =>
        if 4 < ill then { w with state := .faulted, quiet := 0, clean := 0 }
        else if moved then { w with state := .moving, quiet := 0 }
        else if m.quiet < 2 then { w with quiet := m.quiet + 1 }
        else { w with quiet := 3, state := .stopped }
    let dir : TrainDir := match o with
      | none => .notShown
      | some p =>
        if judged.state = .unfitted then .notShown
        else if m.count = 0 then .still
        else if (0 < m.count ∧ p = .p1) ∨ (m.count < 0 ∧ p = .p2) then .forward
        else .reverse
    m.windowEnd z o = { judged with dir := dir, windowDue := false }

/-- R79 steps 5 and 6, R75, R83, R85 and R86: what a window end signals, raises and publishes. A window ends at its
tenth tick, once; a MOTION_WINDOW_END at any other time changes nothing (log entry 20). -/
def Says.WindowEnd : Prop :=
  ∀ s : State,
    let m := s.blk.motion
    let m1 := m.windowEnd s.blk.profile.z s.blk.orientation
    (m.windowDue = false → exec .motionWindowEnd s = .next s) ∧
    (m.windowDue = true → exec .motionWindowEnd s = .next (s.does { s.blk with motion := m1 } fun e =>
      let e1 := if m.state = .stopped ∧ m1.state ≠ .stopped then e.withdraw else e
      let e2 := if m.state ≠ .faulted ∧ m1.state = .faulted then
          e1.notice .encoderFault (hiLo (motionStateNum m.state) (min 255 m.illegal.toNat))
            (BitVec.ofInt 16 m.count)
        else e1
      e2.ask .motion))

/-- R75 to R81 and R83 to R86: transitions counted, and the window end. -/
def Obligations.MotionCounter : Prop :=
  Says.EncoderTransition ∧ Says.IllegalTransition ∧ Says.WindowRecord ∧ Says.WindowEnd

/-- R82 and R83: the motion record at an adoption. -/
def Says.MotionAdoption : Prop :=
  ∀ (m : Motion) (sensor zChanged : Bool),
    let off : Motion := { m with quiet := 0, clean := 0, count := 0, illegal := 0, saturated := false }
    (m.state = .unfitted → sensor = false → m.adopt sensor zChanged = m) ∧
    (m.state = .unfitted → sensor = true → m.adopt sensor zChanged = { off with state := .unknown }) ∧
    (m.state ≠ .unfitted → sensor = false → m.adopt sensor zChanged = { off with state := .unfitted }) ∧
    (m.state = .stopped → sensor = true → zChanged = true →
      m.adopt sensor zChanged = { m with state := .unknown, quiet := 0 }) ∧
    (m.state ≠ .unfitted → sensor = true → (m.state ≠ .stopped ∨ zChanged = false) →
      m.adopt sensor zChanged = m)

/-- R180 with R82, R83, R99 and R46: the blocks react to an accepted profile g in the order of log entry 19: motion
counter, with the withdrawal on leaving STOPPED; door counts; the withdrawal on a newly fitted sensor; channel B and
the latch; the demand; JOIN. -/
def Says.AdoptReactions : Prop :=
  ∀ (e : Ev) (g : Profile),
    let f := e.profile
    let old := e.motion.state
    let m := e.motion.adopt g.sensor (decide (f.z ≠ g.z))
    let e1 : Ev := { e with profile := g, motion := m }
    let e2 := if old = .stopped ∧ m.state ≠ .stopped then e1.withdraw else e1
    let e3 := e2.adoptDoors { e2.toBlocks with profile := f }
    let e4 := if old = .unfitted ∧ m.state = .unknown then e3.withdraw else e3
    let e5 := (e4.adoptLimit f.otLimit).adoptStandby f.s
    let items (p : Profile) := (p.identity, p.doorsLeft, p.doorsRight, p.cab1, p.cab2, p.sensor, p.r, p.f, p.s)
    (items f ≠ items g → e.consist.table ≠ none → e.adopt g = e5.join .profileChanged) ∧
    (items f = items g ∨ e.consist.table = none → e.adopt g = e5)

/-- R93 with R106, R108 and R109: the door records when a profile with other door counts has replaced f: a door that
stays configured keeps its record, one that becomes configured is derived from its contact, one that ceases to be
is unused; then DOOR_FORCED, the DOOR page, and what follows a change of the records. The order of the
notices is log entry 19. -/
def Says.AdoptDoors : Prop :=
  ∀ (e : Ev) (f : Profile),
    let g := e.profile
    ∃ left right : SideRec,
      let new (x : Side) : SideRec := match x with | .left => left | .right => right
      let forced (x : Side) : List (Fin 4) := [0, 1, 2, 3].filter fun d =>
        decide (f.doorCount x ≤ d.val) && decide (d.val < g.doorCount x) && ((new x).doors.get d).state == .forced
      let tell (x : Side) (e : Ev) (d : Fin 4) : Ev :=
        e.notice .doorForced (hiLo (sideNum x) (d.val + 1)) (word e.pos)
      let e1 := (forced .right).foldl (tell .right)
        ((forced .left).foldl (tell .left) (e.setDoors { e.doors with left := left, right := right }))
      e.adoptDoors { e.toBlocks with profile := f } =
        (if f.doorsLeft = g.doorsLeft ∧ f.doorsRight = g.doorsRight then e1 else e1.ask .door).doorsSettled
          { e.toBlocks with profile := f } ∧
      ∀ x : Side,
        let r := e.doors.side x
        (f.doorCount x = g.doorCount x → new x = r) ∧
        (f.doorCount x ≠ g.doorCount x → new x = { r with doors := (new x).doors } ∧
          ∀ d : Fin 4, (new x).doors.get d =
            let y := r.doors.get d
            let fresh (s : DoorState) : DoorRec :=
              { state := s, contact := y.contact, timer := 0, lastClose := 0, limitDue := none }
            if d.val < f.doorCount x ∧ d.val < g.doorCount x then y
            else if g.doorCount x ≤ d.val ∨ y.contact then fresh .closed
            else if r.release then fresh .opened
            else if r.closeReq then fresh .closing
            else fresh .forced)

/-- R131: channel B and the latch when a profile has replaced one whose overtemperature limit was old. -/
def Says.AdoptLimit : Prop :=
  ∀ (e : Ev) (old : Nat),
    let l := e.profile.otLimit
    let v := e.converter
    let out : Ev := e.setHeater { e.heater with latch := false }
    (old = 0 → l ≠ 0 → e.adoptLimit old = e.setConverter { v with
      chB := { state := .noCode, code := 0, run := 0, fault := .absent } }) ∧
    (old ≠ 0 → l = 0 → v.phase ≠ .senseB → e.adoptLimit old = out.setConverter { v with
      chB := { state := .unused, code := 0, run := 0, fault := .absent } }) ∧
    (old ≠ 0 → l = 0 → v.phase = .senseB → e.adoptLimit old = out.setConverter { v with
      chB := { state := .unused, code := 0, run := 0, fault := .absent }
      phase := .refA, timeBase := 0, counter := 0 }) ∧
    ((old = 0 ↔ l = 0) → e.adoptLimit old = e)

/-- R128: the demand when a profile has replaced one whose standby ceiling was old. -/
def Says.AdoptStandby : Prop :=
  ∀ (e : Ev) (old : Nat),
    let a := e.converter.chA.state
    (old ≠ e.profile.s → a = .noCode ∨ a = .unavailable →
      e.adoptStandby old = e.setDemand { e.demand with
        d := byte e.profile.s, basis := .standby, boostOn := e.toBlocks.boostCond }) ∧
    (old = e.profile.s ∨ (a ≠ .noCode ∧ a ≠ .unavailable) → e.adoptStandby old = e)

/-- R179, R180, R82, R83, R93, R99, R128, R131 and R46: ADOPT_PROFILE refused, accepted, and what the blocks make of
it. -/
def Obligations.AdoptProfile : Prop :=
  Says.ProfileRead ∧ Says.ProfileChanges ∧ Says.AdoptRefused ∧ Says.AdoptAccepted ∧ Says.MotionAdoption ∧ Says.AdoptReactions ∧ Says.AdoptDoors ∧
    Says.AdoptLimit ∧ Says.AdoptStandby

/-! ## Train door summary -/

/-- R113 and R114: a car's contribution to a total. -/
def Says.Contribution : Prop :=
  ∀ (b : Blocks) (t : Total), t.list.length ≤ 4 →
    let opens := (b.carDoors.filter fun x => x.state == .opened || x.state == .closing || x.state == .late ||
      x.state == .forced).length
    let faults := (b.carDoors.filter fun x => x.state == .late || x.state == .forced).length
    let q := b.pos
    b.contribute t = { t with
      covered := t.covered + 1
      openCount := t.openCount + opens
      faulted := t.faulted + faults
      refused := t.refused + flagNat b.doors.latch
      list := if opens = 0 then t.list else (q :: t.list).take 4
      more := t.more || (decide (opens ≠ 0) && decide (t.list.length = 4)) }

/-- R114: the open-positions list stays strictly ascending and at most four long as positions below it are
entered. -/
def Says.OpenListAscends : Prop :=
  ∀ (t : Total) (q : Nat), ascending t.list = true → t.list.length ≤ 4 → (∀ p ∈ t.list, q < p) →
    (t.more = true → t.list.length = 4) →
    let r := t.enter q
    ascending r.list = true ∧ r.list.length ≤ 4 ∧ r.list.head? = some q ∧ (∀ p ∈ r.list, q ≤ p) ∧
      (r.more = true → r.list.length = 4) ∧ (t.more = true → r.more = true)

/-- R118, R116 and R121: the judgement of a total that holds the lead's contribution, the latch cleared and the
DOOR page published once. -/
def Says.Judgement : Prop :=
  ∀ (e : Ev) (t : Total),
    let n := e.toBlocks.cars
    let res : DoorResult := if t.covered = n then (if t.openCount = 0 then .closed else .opened)
      else .unknown .short
    e.judge t = ((e.setSummary { e.summary with
        result := res, total := t, judged := true, tick := e.tick, age := .running e.tick }).setDoors
      { e.doors with latch := false }).publishNow .door

/-- R117: a SUMMARY of the live generation at the lead: malformed, late, or judged with the lead's contribution
added. -/
def Says.SummaryAtLead : Prop :=
  ∀ (p : Port) (t : Telegram) (k : Sane) (tb : LiveTable) (s : State), s.blk.hears p t k →
    k.kind = .summary → k.mode = .lead → s.blk.consist.table = some tb → tb.admits p t k →
    s.blk.consist.role = .lead → tb.pos = 1 → p ≠ tb.toward →
    let j := s.blk.summary
    let last := (s.blk.consist.beaconNo.toNat + 59999) % 60000
    let lag (b : Word) := (last + 60000 - b.toNat) % 60000
    let inc (w : Word) : Word := if w = 65535 then 65535 else w + 1
    let run (g : Ev → Ev) := exec (.summaryTelegram p t) s =
      .next (s.does s.blk fun e => (g e).offer (portNum p) t)
    (s.blk.acceptedTotal t = none → run fun e => e.setSummary { j with malformed := inc j.malformed }) ∧
    ∀ x, s.blk.acceptedTotal t = some x →
      let timely := lag x.beacon ≤ 2 ∧ (j.judged = true → lag x.beacon < lag j.total.beacon)
      (¬ timely → run fun e => e.setSummary { j with late := inc j.late }) ∧
      (timely → run fun e => e.judge (s.blk.contribute x))

/-- R115: the content conditions on a SUMMARY. -/
def Says.SummaryConditions : Prop :=
  ∀ (b : Blocks) (t : Telegram) (x : Total),
    b.acceptedTotal t = some x ↔
      ∃ k, parseSummary t.payload = some (x, k) ∧
        let q := b.pos
        t.hdr.srcPos.toNat = q + 1 ∧ x.beacon.toNat ≤ 59999 ∧ 1 ≤ x.covered ∧ x.covered ≤ b.cars - q ∧
        x.faulted ≤ x.openCount ∧ x.openCount ≤ 8 * x.covered ∧ x.refused ≤ x.covered ∧
        k ≤ 4 ∧ ascending x.list = true ∧ (∀ p ∈ x.list, q + 1 ≤ p ∧ p ≤ b.cars) ∧
        x.list.length ≤ x.openCount ∧ (x.more = true → x.list.length = 4)

/-- R113 to R118: how a train door total is made, checked and judged. -/
def Obligations.SummaryTotals : Prop :=
  Says.Contribution ∧ Says.OpenListAscends ∧ Says.Judgement ∧ Says.SummaryConditions

/-- R115 and R116 with R57: a SUMMARY from the away port at a follower is consumed, not forwarded: discarded, or
continued toward the lead with this car's contribution; the latch clears once the copy is admitted. The notices of
its copy stand before the delivered telegram (log entry 8). -/
def Says.SummaryContinued : Prop :=
  ∀ (p : Port) (t : Telegram) (k : Sane) (tb : LiveTable) (s : State), s.blk.hears p t k →
    k.kind = .summary → k.mode = .lead → s.blk.consist.table = some tb → tb.admits p t k →
    s.blk.consist.role = .follower → 2 ≤ tb.pos → p ≠ tb.toward →
    let run (g : Ev → Ev) := exec (.summaryTelegram p t) s =
      .next (s.does s.blk fun e => (g e).offer (portNum p) t)
    (s.blk.acceptedTotal t = none → run fun e => e) ∧
    ∀ x, s.blk.acceptedTotal t = some x → run fun e =>
      let y := e.originate { kind := .summary, cls := .safety, mode := .lead
                             payload := summaryPayload (s.blk.contribute x) }
      if y.2.report.placed ≠ 0 then
        (y.1.setDoors { y.1.doors with latch := false }).doorsSettled y.1.toBlocks else y.1

/-- R54 and R55: a SUMMARY that comes from the toward-lead port is dropped as misrouted. -/
def Says.SummaryMisrouted : Prop :=
  ∀ (p : Port) (t : Telegram) (k : Sane) (tb : LiveTable) (s : State), s.blk.hears p t k →
    k.kind = .summary → k.mode = .lead → s.blk.consist.table = some tb → tb.admits p t k → p = tb.toward →
    exec (.summaryTelegram p t) s = .next (s.does s.blk fun e => e.drop p k.cls)

/-- R54, R55 and R115 to R117: a SUMMARY at the lead and at a follower, by its port of arrival. -/
def Obligations.SummaryTelegram : Prop :=
  Says.SummaryAtLead ∧ Says.SummaryContinued ∧ Says.SummaryMisrouted

/-- R119: the age timer of the judgement. An expiry of a stopped timer is none (log entry 6). -/
def Says.AgeTimer : Prop :=
  ∀ s : State,
    (s.blk.summary.age = .stopped → exec .ageTimerExpiry s = .next s) ∧
    ∀ since, s.blk.summary.age = .running since →
      let b : Blocks := { s.blk with summary := { s.blk.summary with
        result := .unknown .stale, age := .stopped } }
      exec .ageTimerExpiry s = .next (s.after b [b.shows .door])

/-- R8, R9, R38, R39, R41, R42, R47, R119 and R155: the expiry of each of the seven timers of the blocks' records
(that of the supply monitor's period is SupplyMonitor's). -/
def Obligations.Timers : Prop :=
  Says.LeadTimers ∧ Says.FollowerTimers ∧ Says.AgeTimer ∧ Says.SilenceTimer

/-! ## Heating measurements -/

/-- R126: the state of a channel after each result. -/
def Obligations.ChannelResult : Prop :=
  ∀ (c : Channel) (code : Word) (f : MeasFault), c.state ≠ .unused → c.run ≤ 5 →
    c.result (.valid code) = { state := .valid, code := code, run := 0, fault := .absent } ∧
    c.result (.failure f) = { c with
      run := min 5 (c.run + 1), fault := f
      state := match c.state with
        | .valid => .stale
        | .noCode => if c.run + 1 < 5 then .noCode else .unavailable
        | .stale => if c.run + 1 < 5 then .stale else .unavailable
        | .unavailable => .unavailable
        | .unused => .unused }

/-- R126 with R128 and R136: a result of channel A: the notice of an entry to UNAVAILABLE, the demand, the page. -/
def Says.ResultOfA : Prop :=
  ∀ (e : Ev) (x : ChanResult),
    let a := e.converter.chA
    let c := a.result x
    let e1 := e.setConverter { e.converter with chA := c }
    let e2 := if a.state ≠ .unavailable ∧ c.state = .unavailable then
        e1.notice .tempUnavailable (hiLo 1 (measFaultNum c.fault)) c.code else e1
    e.resultA x = (e2.setDemand e2.toBlocks.formDemand).ask .heat

/-- R130 with R126, R136 and R160: a result of channel B at the overtemperature latch; a setting cuts the cycle
in progress at once. That a code equal to the limit sets the latch also with hysteresis 0 is log entry 41. -/
def Says.ResultOfB : Prop :=
  ∀ (e : Ev) (x : ChanResult), e.converter.chB.state ≠ .unused →
    let b := e.converter.chB
    let c := b.result x
    let h := e.heater
    let l := e.profile.otLimit
    let clearing := l - e.profile.otHyst
    let e1 := e.setConverter { e.converter with chB := c }
    let enters := b.state ≠ .unavailable ∧ c.state = .unavailable
    let e2 := if enters then e1.notice .tempUnavailable (hiLo 2 (measFaultNum c.fault)) c.code else e1
    let set (cause : OtCause) (code : Word) := (e2.setHeater { h with
      latch := true, latchCause := cause, cut := true }).notice .heaterOvertemp (word (otCauseNum cause)) code
    e.resultB x = Ev.ask (match x with
      | .valid code =>
        if l ≤ code.toNat then (if h.latch then e2 else set .code code)
        else if code.toNat ≤ clearing then e2.setHeater { h with latch := false }
        else e2
      | .failure _ => if enters ∧ h.latch = false then set .unavailable c.code else e2) .heat

/-- R124, R125 and R138: the rows of the ratio converter in each phase. Rows of another phase change nothing
(log entry 26). -/
def Says.ConverterRows : Prop :=
  ∀ (tb : BitVec 20) (count : Word) (s : State),
    let v := s.blk.converter
    let inUse := v.chB.state ≠ .unused
    let begins (ph : Phase) (e : Ev) : Ev :=
      e.setConverter { e.converter with phase := ph, timeBase := 0, counter := 0 }
    let good (ph : Phase) : State := s.after { s.blk with converter := { v with
      tref := tb, refGood := true, phase := ph, timeBase := 0, counter := 0 } } []
    let n : Word := if v.refFaults = 65535 then 65535 else v.refFaults + 1
    let aborted (ch : Nat) (e : Ev) : Ev :=
      let e1 := e.setConverter { v with refFaults := n, refGood := false }
      if v.refGood then e1.notice .referenceFault (word ch) n else e1
    let result : ChanResult := if 16 ≤ count.toNat then .valid count else .failure .sensor
    (v.phase = .refA → exec (.referencePhaseComplete tb) s = .next (good .senseA) ∧
      exec .referenceAbort s = .next (s.does s.blk fun e =>
        begins .refB ((aborted 1 e).resultA (.failure .reference)))) ∧
    (v.phase = .refB → inUse → exec (.referencePhaseComplete tb) s = .next (good .senseB) ∧
      exec .referenceAbort s = .next (s.does s.blk fun e =>
        begins .refA ((aborted 2 e).resultB (.failure .reference)))) ∧
    (v.phase = .refB → ¬ inUse → exec (.referencePhaseComplete tb) s = .next (good .refA) ∧
      exec .referenceAbort s = .next (s.does s.blk fun e => begins .refA (aborted 0 e))) ∧
    (v.phase = .senseA →
      exec (.sensorPhaseEnd count) s = .next (s.does s.blk fun e => begins .refB (e.resultA result)) ∧
      exec .measureOverflow s = .next (s.does s.blk fun e => begins .refB (e.resultA (.failure .overflow)))) ∧
    (v.phase = .senseB →
      exec (.sensorPhaseEnd count) s = .next (s.does s.blk fun e => begins .refA (e.resultB result)) ∧
      exec .measureOverflow s = .next (s.does s.blk fun e => begins .refA (e.resultB (.failure .overflow)))) ∧
    (v.phase = .senseA ∨ v.phase = .senseB → exec (.referencePhaseComplete tb) s = .next s ∧
      exec .referenceAbort s = .next s) ∧
    (v.phase = .refA ∨ v.phase = .refB → exec (.sensorPhaseEnd count) s = .next s ∧
      exec .measureOverflow s = .next s)

/-- R124 to R126, R128, R130, R136, R138 and R160: the ratio converter's rows and what its results do. -/
def Obligations.Converter : Prop :=
  Says.ResultOfA ∧ Says.ResultOfB ∧ Says.ConverterRows

/-- R134 and R137: the last channel of a scan's range has been converted; and the period timer. An event that
finds no scan or a stopped timer changes nothing (log entries 6 and 27). -/
def Says.MonitorScan : Prop :=
  ∀ (c0 c1 c2 c3 : BitVec 12) (s : State),
    let m := s.blk.monitor
    let fresh (i : Nat) (code : BitVec 12) (x : SupplyChan) : SupplyChan :=
      if m.start ≤ i ∧ i ≤ m.stop then { code := code, measured := true, age := 0 } else x
    let m1 : Monitor := { m with
      scan := .idle, scanNo := m.scanNo + 1
      chans := { x0 := fresh 0 c0 m.chans.x0, x1 := fresh 1 c1 m.chans.x1, x2 := fresh 2 c2 m.chans.x2
                 x3 := fresh 3 c3 m.chans.x3 } }
    let shown := Blocks.shows { s.blk with monitor := m1 } .monitor
    (m.scan = .idle → exec (.scanComplete c0 c1 c2 c3) s = .next s) ∧
    (∀ i xs, m.scan = .scanning i xs →
      (m.mode ≠ .once → exec (.scanComplete c0 c1 c2 c3) s =
        .next (s.after { s.blk with monitor := m1 } [shown])) ∧
      (m.mode = .once → ∀ n, m.waitSlot = some n → exec (.scanComplete c0 c1 c2 c3) s =
        .next (s.after { s.blk with monitor := { m1 with mode := .off, waitSlot := none } }
          [shown, .complete n 1 (m.scanNo + 1) 0])) ∧
      (m.mode = .once → m.waitSlot = none → exec (.scanComplete c0 c1 c2 c3) s =
        .next (s.after { s.blk with monitor := { m1 with mode := .off } } [shown]))) ∧
    (m.period = .stopped → exec .periodTimerExpiry s = .next s) ∧
    ∀ since, m.period = .running since → exec .periodTimerExpiry s = .next (s.after
      { s.blk with monitor := { m with period := .running s.blk.tick, scan := .scanning m.start [] } } [])

/-- R135: the draw. -/
def Says.Draw : Prop :=
  ∀ b : Blocks, b.draw = (if b.monitor.chans.x1.measured then
      b.monitor.chans.x1.code.toNat * b.profile.hcuScale / 4095 else 0) ∧
    (b.profile.hcuScale ≤ 400 → b.draw ≤ 400)

/-- R134, R135 and R137: the supply monitor's scans, and the draw. -/
def Obligations.SupplyMonitor : Prop :=
  Says.MonitorScan ∧ Says.Draw

/-! ## Allocation and heater output -/

/-- R142 with R57: a DEMAND of the live generation at the lead: discarded and counted, or taken into the entry of
its source position; and carried on at a follower, or dropped as misrouted when it comes from the toward-lead
port (R54, R55). -/
def Obligations.DemandTelegram : Prop :=
  ∀ (p : Port) (t : Telegram) (k : Sane) (tb : LiveTable) (s : State) (d w0 w1 flags : Byte),
    s.blk.hears p t k → k.kind = .demand → k.mode = .lead → s.blk.consist.table = some tb →
    tb.admits p t k → t.payload = [d, w0, w1, flags] →
    (p = tb.toward → exec (.demandTelegram p t) s = .next (s.does s.blk fun e => e.drop p k.cls)) ∧
    (p ≠ tb.toward →
      let draw := packWord w0 w1
      let a := s.blk.alloc
      let src := t.hdr.srcPos.toNat
      (2 ≤ tb.pos → exec (.demandTelegram p t) s = .next (s.does s.blk fun e => e.forward p k.cls t)) ∧
      (tb.pos = 1 →
        (400 < draw.toNat ∨ 3 < flags.toNat → exec (.demandTelegram p t) s = .next (s.does
          { s.blk with alloc := { a with
              malformed := if a.malformed = 65535 then 65535 else a.malformed + 1 } }
          fun e => e.offer (portNum p) t)) ∧
        (draw.toNat ≤ 400 → flags.toNat ≤ 3 → ∃ a1 : Alloc,
          exec (.demandTelegram p t) s = .next (s.does { s.blk with alloc := a1 }
            fun e => e.offer (portNum p) t) ∧
          a1 = { a with table := a1.table } ∧ (a.table = none → a1.table = none) ∧
          ∀ xs, a.table = some xs → ∃ ys, a1.table = some ys ∧ ys.length = xs.length ∧
            ∀ i : Nat, ys[i]? = xs[i]?.map fun x =>
              if i + 1 = src then { x with demanded := true, d := d.toNat, draw := draw.toNat, flags := flags
                                           refreshed := true } else x)))

/-- R145: the demand and floor used for an entry after its ageing (R144 step 1). -/
def Says.EntryUsed : Prop :=
  ∀ x : DemandEntry,
    let y := x.ageOne
    (x.refreshed = true → y = { x with age := 0, refreshed := false }) ∧
    (x.refreshed = false → x.age ≤ 255 → y = { x with age := min 255 (x.age + 1) }) ∧
    (x.demanded = true → x.age ≤ 3 → x.dUsed = x.d ∧ x.floorUsed = min x.f x.d) ∧
    (x.demanded = true → 4 ≤ x.age → x.dUsed = min x.s x.d ∧ x.floorUsed = min x.f (min x.s x.d)) ∧
    (x.demanded = false → x.dUsed = x.s ∧ x.floorUsed = min x.f x.s)

/-- R146: the derated budget. -/
def Says.Derating : Prop :=
  ∀ (b vlow : Nat) (tlv : SupplyChan),
    (vlow = 0 → derate b vlow tlv = (b, .absent, false)) ∧
    (vlow ≠ 0 →
      (tlv.measured = false ∨ 100 < tlv.age.toNat → derate b vlow tlv = (b, .unusable, true)) ∧
      (tlv.measured = true → tlv.age.toNat ≤ 100 →
        (vlow ≤ tlv.code.toNat → derate b vlow tlv = (b, .code tlv.code, false)) ∧
        (tlv.code.toNat < vlow →
          derate b vlow tlv = (b * tlv.code.toNat / vlow, .code tlv.code, false))))

/-- R148: the grants of a table under budget Bs by case, the law they keep (within the budget, and none above the
d used), and that no intermediate value exceeds 48 bits. -/
def Obligations.GrantLaw : Prop :=
  ∀ (bs : Nat) (xs : List DemandEntry),
    let inc := xs.filter fun x => decide (x.r ≠ 0)
    let dd := (inc.map fun x => x.dUsed * x.r).sum
    let ff := (inc.map fun x => x.floorUsed * x.r).sum
    let k := (bs - ff) * 65536 / (dd - ff)
    let gs := computeGrants bs xs
    gs.length = xs.length ∧
    (∀ (i : Nat) (x : DemandEntry) (g : GrantLine), xs[i]? = some x → gs[i]? = some g →
      (x.r = 0 → g.g = 0 ∧ g.included = false) ∧
      (x.r ≠ 0 →
        g.included = true ∧ g.dUsed = x.dUsed ∧ g.e = x.floorUsed ∧ g.g ≤ x.dUsed ∧
        (dd ≤ bs → g.g = x.dUsed) ∧
        (bs < dd → bs ≤ ff → g.g = if ff = 0 then 0 else x.floorUsed * bs / ff) ∧
        (bs < dd → ff < bs → g.g = x.floorUsed + (x.dUsed - x.floorUsed) * k / 65536))) ∧
    ((gs.zip xs).map fun y => y.1.g * y.2.r).sum ≤ bs ∧
    (bs < dd → ff < bs → k < 65536) ∧
    (xs.length ≤ 32 → (∀ x ∈ xs, x.r ≤ 200 ∧ x.dUsed ≤ 255) → bs ≤ 2048000 →
      dd ≤ 1632000 ∧ ff ≤ 1632000 ∧ (bs - ff) * 65536 < 2 ^ 38 ∧
      ∀ x ∈ xs, x.floorUsed * bs < 2 ^ 48 ∧ (bs < dd → ff < bs → (x.dUsed - x.floorUsed) * k < 2 ^ 48))

/-- R144, R149 and R150: an allocation period at the lead, with the GRANT it sends. What is recorded of an excluded
entry beside its grant, and of k outside case SCALED, is log entry 42. -/
def Says.AllocationPeriod : Prop :=
  ∀ (e : Ev) (n : Word),
    let a := e.alloc
    let aged : Alloc := { a with table := a.table.map (List.map DemandEntry.ageOne), periodTick := e.tick }
    (n.toNat % 10 ≠ 5 → e.allocBeacon n = e) ∧
    (n.toNat % 10 = 5 → a.budgetSet = false →
      e.allocBeacon n = (e.setAlloc { aged with lastPeriod := .skippedUnset }).ask .heat) ∧
    (n.toNat % 10 = 5 → a.budgetSet = true →
      let xs := (a.table.getD []).map DemandEntry.ageOne
      let der := derate a.b a.vlow e.monitor.chans.x0
      let c := grantCase (256 * der.1) (demandSum xs) (floorSum xs)
      let a1 : Alloc := { aged with
        number := a.number + 1, lastPeriod := .computed c, bEff := der.1, tlv := der.2.1
        derateUnavailable := der.2.2, bs := 256 * der.1, dSum := demandSum xs, fSum := floorSum xs
        k := computedK c (256 * der.1) (demandSum xs) (floorSum xs)
        grants := some (computeGrants (256 * der.1) xs) }
      let gs := computeGrants (256 * der.1) xs
      let x := (e.setAlloc a1).originate
        { kind := .grant, cls := .power, mode := .all
          payload := wordBytes (a.number + 1) ++ wordBytes (word der.1) ++
            [byte gs.length, byte (flagNat (c = .shortfall) + 2 * flagNat der.2.2)] ++ gs.map fun l => byte l.g }
      let fate := if x.2.report.placed ≠ 0 then GrantOutcome.sent
        else if x.2.report.refused ≠ 0 then .refused
        else if x.2.report.down ≠ 0 then .linkDown else .localOnly
      let e1 := x.1.setAlloc { x.1.alloc with outcome := some fate }
      e.allocBeacon n = Ev.ask (match x.2.localTel with
        | some t => (e1.takeGrant t.payload).offer 0 t
        | none => e1) .heat)

/-- R144 to R146 and R149: the allocation period. -/
def Obligations.Allocation : Prop :=
  Says.EntryUsed ∧ Says.Derating ∧ Says.AllocationPeriod

/-- R154 with R53 to R57: a GRANT of the live generation at a positioned car: taken for its own position, or
counted malformed; then delivery and the copy that goes on. -/
def Says.GrantTelegram : Prop :=
  ∀ (p : Port) (t : Telegram) (k : Sane) (tb : LiveTable) (s : State) (a0 a1 b0 b1 n flags : Byte)
    (gs : List Byte), s.blk.hears p t k → k.kind = .grant → k.mode = .all → s.blk.consist.table = some tb →
    tb.admits p t k → t.payload = [a0, a1, b0, b1, n, flags] ++ gs →
    let h := s.blk.heater
    let fits := n.toNat = tb.entries.length ∧ gs.length = tb.entries.length ∧ flags.toNat ≤ 3
    let onward (e : Ev) : Ev :=
      let e1 := e.offer (portNum p) t
      if dueForward tb p .all t.hdr.dstLo.toNat t.hdr.dstHi.toNat then e1.forward p k.cls t else e1
    (fits → exec (.grantTelegram p t) s = .next (s.does
      { s.blk with heater := { h with
          status := .fresh, g := gs.getD (tb.pos - 1) 0, number := packWord a0 a1, flags := flags, age := 0 } }
      fun e => onward (e.ask .heat))) ∧
    (¬ fits → exec (.grantTelegram p t) s = .next (s.does
      { s.blk with heater := { h with
          malformed := if h.malformed = 65535 then 65535 else h.malformed + 1 } } onward))

/-- R155 and R162: a FRESH grant that has reached 300 ticks lapses; otherwise nothing happens (log entry 20). -/
def Says.GrantExpiry : Prop :=
  ∀ s : State,
    let h := s.blk.heater
    let b : Blocks := { s.blk with heater := { h with status := .expired } }
    (h.status = .fresh → 300 ≤ h.age.toNat → exec .grantExpiry s = .next (s.after b
      [b.tells .grantTimeout (hiLo h.g.toNat s.blk.pos) h.number, b.shows .heat])) ∧
    (h.status ≠ .fresh ∨ h.age.toNat < 300 → exec .grantExpiry s = .next s)

/-- R154, R155 and R162: a GRANT received, and its lapse. -/
def Obligations.Grants : Prop :=
  Says.GrantTelegram ∧ Says.GrantExpiry

/-- R157 with R156, R158 and R159: a cycle start. A cycle begins at slot 0, once; a CYCLE_START at any other time
changes nothing (log entry 20). -/
def Says.CycleStart : Prop :=
  ∀ s : State,
    let h := s.blk.heater
    let f := s.blk.profile
    let d := s.blk.demand.d.toNat
    let duty : Nat × DutyBasis :=
      if h.latch then (0, .overtemp)
      else if h.status = .fresh then (min h.g.toNat d, .grant) else (min f.s d, .standby)
    let q := s.blk.pos
    let n := s.blk.cars
    let ls := match f.mode with | .quad => 64 | .dual => 128
    let b : Blocks := { s.blk with heater := { h with
      cycles := h.cycles + 1, cut := false, cycleDue := false, mode := f.mode, target := duty.1, basis := duty.2
      onCounts := onCounts f.mode duty.1
      offset := if n = 0 then 0 else (q - 1) * ls / n, offsetPos := q, offsetCars := n } }
    (h.cycleDue = true → exec .cycleStart s = .next (s.after b [b.shows .heat])) ∧
    (h.cycleDue = false → exec .cycleStart s = .next s)

/-- R158: the on-counts add up to the duty, none is longer than its sub-cycle, and they differ by at most one. -/
def Says.OnCounts : Prop :=
  ∀ (m : HeaterMode) (duty : Nat), duty ≤ 255 →
    let c := onCounts m duty
    let subs := match m with | .quad => 4 | .dual => 2
    let len := match m with | .quad => 64 | .dual => 128
    c.length = subs ∧ c.sum = duty ∧
      ∀ i < subs, c.getD i 0 = duty / subs + (if i < duty % subs then 1 else 0) ∧ c.getD i 0 ≤ len

/-- R159 and R160: the HTR pin: slot u of sub-cycle i is on exactly when (u - o) mod Ls is below the on-count of the
sub-cycle; over a whole cycle it is on for exactly the duty, and never while the cut is set. -/
def Says.HeaterPin : Prop :=
  ∀ h : Heater,
    let subs := match h.mode with | .quad => 4 | .dual => 2
    let len : Nat := match h.mode with | .quad => 64 | .dual => 128
    (h.cut = true → h.htr = false) ∧
    (h.cut = false → h.offset < len → ∀ i < subs, ∀ u < len,
      (Heater.htr { h with slot := BitVec.ofNat 8 (i * len + u) } = true ↔
        ((u : Int) - (h.offset : Int)) % (len : Int) < (h.onCounts.getD i 0 : Int))) ∧
    (∀ duty, duty ≤ 255 → h.cut = false → h.onCounts = onCounts h.mode duty →
      h.offset < len →
      ((List.range 256).filter fun t => Heater.htr { h with slot := BitVec.ofNat 8 t }).length = duty)

/-- R156 to R160: the heater cycle, its on-counts and the pin. -/
def Obligations.HeaterCycle : Prop :=
  Says.CycleStart ∧ Says.OnCounts ∧ Says.HeaterPin

/-- R164, R75, R91, R132, R153 and R155: what a tick advances by one, and its comparison of the timer of a CLOSING
door with the limit in force (R91); at slot 0 a cycle start falls due (R157), and at each tenth tick a motion window's
end (R75). The three marks are log entry 20, as is that a limit due since the tick before is taken first. -/
def Obligations.Tick : Prop :=
  ∀ s : State, ∃ ds : Doors, ∃ ms : Quad SupplyChan,
    let inc (w : Word) : Word := if w = 65535 then 65535 else w + 1
    let h := s.blk.heater
    let m := s.blk.motion
    let old := (Ev.start s.blk).closeLimits.doors
    let limit := s.blk.profile.closeLimit * 10
    exec .tick s = .next (s.does s.blk fun e => { e.closeLimits with
      tick := s.blk.tick + 1, doors := ds, monitor := { s.blk.monitor with chans := ms }
      motion := { m with windowTicks := (m.windowTicks + 1) % 10, windowDue := decide ((m.windowTicks + 1) % 10 = 0) }
      heater := { h with age := inc h.age, slot := h.slot + 1, cycleDue := decide (h.slot = 255) } }) ∧
    ds.latch = old.latch ∧
    (∀ x : Side, ds.side x = { old.side x with doors := (ds.side x).doors } ∧
      ∀ d : Fin 4, (ds.side x).doors.get d =
        let y := (old.side x).doors.get d
        let n := inc y.timer
        if d.val < s.blk.profile.doorCount x ∧ y.state = .closing then
          { y with timer := n, limitDue := if limit ≤ n.toNat then some (word limit) else none }
        else if d.val < s.blk.profile.doorCount x ∧ y.state = .late then { y with timer := n } else y) ∧
    ∀ i : Fin 4, ms.get i =
      let c := s.blk.monitor.chans.get i
      if c.measured then { c with age := inc c.age } else c

/-! ## Arrival of telegrams -/

/-- R52: header sanity: the codes, the length, the sweep entries, class and mode, hops, source and destination. -/
def Says.HeaderSanity : Prop :=
  (∀ (t : Telegram) (k : Sane),
    let n := t.payload.length
    let lo := t.hdr.dstLo.toNat
    let hi := t.hdr.dstHi.toNat
    headerSanity t = some k ↔
      (kindNum k.kind = t.hdr.kind.toNat ∧ (clsIdx k.cls).val = t.hdr.classMode.toNat % 16 ∧
        modeNum k.mode = t.hdr.classMode.toNat / 16) ∧
      t.hdr.plen.toNat = n ∧
      (match k.kind with
        | .sweep => 18 ≤ n ∧ n ≤ 390 ∧ (n - 6) % 12 = 0
        | .ret => 30 ≤ n ∧ n ≤ 390 ∧ (n - 6) % 12 = 0
        | .sweepFail | .confirm | .beacon => n = 7
        | .dissolve | .brk => n = 1
        | .join => n = 2
        | .door => n = 3
        | .summary => n = 14
        | .demand => n = 4
        | .grant => 7 ≤ n ∧ n ≤ 38
        | .data => n ≤ 464) ∧
      (k.kind = .sweep ∨ k.kind = .ret → (parseEntries (t.payload.getD 5 0).toNat (t.payload.drop 6)).isSome) ∧
      (match k.kind with
        | .sweep | .ret | .sweepFail | .confirm | .dissolve => k.cls = .control ∧ k.mode = .neighbour
        | .beacon => k.cls = .control ∧ k.mode = .all
        | .brk | .join => k.cls = .control ∧ k.mode = .lead
        | .door => k.cls = .safety ∧ (k.mode = .range ∨ k.mode = .all)
        | .summary => k.cls = .safety ∧ k.mode = .lead
        | .demand => k.cls = .power ∧ k.mode = .lead
        | .grant => k.cls = .power ∧ k.mode = .all
        | .data => k.cls = .control ∨ k.cls = .service) ∧
      t.hdr.hops.toNat ≤ 31 ∧ (k.mode = .neighbour → t.hdr.hops = 0) ∧
      t.hdr.srcPos.toNat ≤ 32 ∧ (k.mode ≠ .neighbour → t.hdr.srcPos ≠ 0) ∧
      (match k.mode with
        | .neighbour => lo = 1 ∨ lo = 2
        | .position => lo = hi ∧ 1 ≤ lo ∧ lo ≤ 32
        | .range => 1 ≤ lo ∧ lo ≤ hi ∧ hi ≤ 32
        | .all | .lead => True)) ∧
  ∀ (m : Nat) (xs : List Byte), (parseEntries m xs).isSome = true ↔
    xs.length = 12 * m ∧ ∀ i < m,
      let at' (j : Nat) : Byte := xs.getD (12 * i + j) 0
      (at' 4 = 1 ∨ at' 4 = 2) ∧ (at' 5).toNat ≤ 4 ∧ (at' 6).toNat ≤ 4 ∧ (at' 7).toNat < 16 ∧
        (at' 8).toNat ≤ 200 ∧ at' 11 = 0

/-- R14, R52, R53 and R54: a telegram discarded on arrival, by whichever row names it (log entry 24). -/
def Says.ArrivalDiscards : Prop :=
  ∀ (p : Port) (t : Telegram) (s : State) (c : Instr), c ∈ telegramRows p t →
    let lp := s.blk.port p
    let inc (w : Word) : Word := if w = 65535 then 65535 else w + 1
    (lp.state ≠ .up → exec c s = .next s) ∧
    (lp.state = .up → headerSanity t = none → exec c s =
      .next (s.after (s.blk.withPort p { lp with winErr := inc lp.winErr }) [])) ∧
    ∀ k, s.blk.hears p t k → sweepFamily k.kind = false →
      let i := clsIdx k.cls
      let dropped := exec c s =
        .next (s.after (s.blk.withPort p { lp with drops := lp.drops.set i (inc (lp.drops.get i)) }) [])
      (s.blk.consist.table = none → t.hdr.gen ≠ 0 ∨ k.kind ≠ .data ∨ k.mode ≠ .neighbour → dropped) ∧
      ∀ tb, s.blk.consist.table = some tb →
        let src := t.hdr.srcPos.toNat
        (t.hdr.gen ≠ tb.gen → dropped) ∧
        (t.hdr.gen = tb.gen → k.mode ≠ .neighbour → p = tb.toward → src < 1 ∨ tb.pos ≤ src → dropped) ∧
        (t.hdr.gen = tb.gen → k.mode ≠ .neighbour → p ≠ tb.toward → src ≤ tb.pos ∨ tb.entries.length < src →
          dropped)

/-- R14 and R52 to R54: what a telegram must pass on arrival, and what becomes of one that does not. -/
def Obligations.Arrival : Prop :=
  Says.HeaderSanity ∧ Says.ArrivalDiscards

/-- R54, R55 and R56: the side of arrival, who is addressed, which positions lie beyond, and the copy that goes
on, at position q of N. -/
def Says.Routing : Prop :=
  ∀ (tb : LiveTable) (p : Port) (m : Mode) (lo hi src : Nat), 1 ≤ tb.pos → tb.pos ≤ tb.entries.length →
    let q := tb.pos
    let n := tb.entries.length
    let target (d : Nat) : Prop := match m with
      | .neighbour => False
      | .position => d = lo
      | .range => lo ≤ d ∧ d ≤ hi
      | .all => 1 ≤ d ∧ d ≤ n
      | .lead => d = 1
    (sideOk tb p src = true ↔
      (p = tb.toward ∧ 1 ≤ src ∧ src < q) ∨ (p ≠ tb.toward ∧ q < src ∧ src ≤ n)) ∧
    (addressed tb m lo hi = true ↔ m = .neighbour ∨ target q) ∧
    (dueForward tb p m lo hi = true ↔
      ∃ d, target d ∧ ((p = tb.toward ∧ q < d ∧ d ≤ n) ∨ (p ≠ tb.toward ∧ 1 ≤ d ∧ d < q))) ∧
    ∀ (e : Ev) (c : Cls) (t : Telegram),
      (t.hdr.hops = 0 → e.forward p c t = e.setPort p ((e.port p).addDrop c)) ∧
      (t.hdr.hops ≠ 0 → e.forward p c t = (e.placeCopies c none
        [{ port := portOther p, tel := { t with hdr := { t.hdr with hops := t.hdr.hops - 1 } } }]).1)

/-- R53 and R55 to R58: a DATA telegram: handed off to the delivery map, forwarded, both, or discarded. -/
def Says.DataTelegram : Prop :=
  ∀ (p : Port) (t : Telegram) (k : Sane) (s : State), s.blk.hears p t k → k.kind = .data →
    let run (g : Ev → Ev) := exec (.dataTelegram p t) s = .next (s.does s.blk g)
    let here (e : Ev) := e.offer (portNum p) t
    (s.blk.consist.table = none → t.hdr.gen = 0 → k.mode = .neighbour → run here) ∧
    ∀ tb, s.blk.consist.table = some tb → tb.admits p t k →
      let lo := t.hdr.dstLo.toNat
      let hi := t.hdr.dstHi.toNat
      let on (e : Ev) := e.forward p k.cls t
      (k.mode = .neighbour → run here) ∧
      (k.mode ≠ .neighbour →
        (addressed tb k.mode lo hi = true → dueForward tb p k.mode lo hi = true → run fun e => on (here e)) ∧
        (addressed tb k.mode lo hi = true → dueForward tb p k.mode lo hi = false → run here) ∧
        (addressed tb k.mode lo hi = false → dueForward tb p k.mode lo hi = true → run on) ∧
        (addressed tb k.mode lo hi = false → dueForward tb p k.mode lo hi = false →
          run fun e => e.drop p k.cls))

/-- R53 to R58: where an admitted telegram goes. -/
def Obligations.Relaying : Prop :=
  Says.Routing ∧ Says.DataTelegram

/-! ## Encodings -/

/-- R183 with 11.6: every header and every payload of the thirteen kinds reads back as what it was built from. -/
def Says.TelegramsReadBack : Prop :=
  (∀ h : Header, parseHeader (headerBytes h) = some h) ∧
  (∀ b : SweepBody, b.entries.length ≤ 255 → (∀ x ∈ b.entries, entrySane x 0 = true) →
    parseSweep (sweepPayload b) = some b) ∧
  (∀ b : FailBody, parseFail (failPayload b) = some b) ∧
  (∀ b : ConfirmBody, parseConfirm (confirmPayload b) = some b) ∧
  (∀ b : BeaconBody, parseBeacon (beaconPayload b) = some b) ∧
  (∀ b : DoorBody, parseDoor (doorPayload b) = some b) ∧
  (∀ b : DemandBody, parseDemand (demandPayload b) = some b) ∧
  (∀ b : GrantBody, parseGrant (grantPayload b) = some b) ∧
  (∀ t : Total, t.covered ≤ 255 → t.openCount ≤ 65535 → t.faulted ≤ 65535 → t.refused ≤ 255 →
    t.list.length ≤ 4 → (∀ p ∈ t.list, p ≤ 255) → parseSummary (summaryPayload t) = some (t, t.list.length)) ∧
  ∀ (h : Header) (payload : List Byte), h.plen.toNat ≤ 464 →
    parseTelegram (telegramBytes { hdr := h, payload }) = some { hdr := h, payload }

/-- R169 with 11.3: the request word and the body that a slot command row posts read back as the command with
its parameters. -/
def Says.SlotBodiesReadBack : Prop :=
  (∀ (kind : Nat) (tag : Byte), kind < 16 →
    parseRequest (requestWord .posted kind tag) = { req := .posted, kind, tag } ∧
    parseRequest (requestWord .abandon kind tag) = { req := .abandon, kind, tag }) ∧
  ∀ (c : Instr) (n : Fin 16) (tag : Byte) (kind : Nat) (body : List Byte),
    slotRow c = some (n, tag, kind, body) → body.length ≤ 480 →
    parseCmd kind body.length body = .ok (match c with
      | .setCab _ _ x => .setCab x
      | .startSweep _ _ => .startSweep
      | .send _ _ cls mode lo hi flags plen payload => .send cls mode lo hi flags plen.toNat payload
      | .door _ _ action scope side lo hi number attest => .door action scope side lo hi number attest
      | .heatSet _ _ setpoint gain boost => .heatSet setpoint gain boost
      | .budget _ _ b vlow => .budget b vlow
      | .monitor _ _ start stop mode => .monitor start stop mode
      | .restoreLink _ _ port => .restoreLink port
      | _ => .adoptProfile)

/-- R1 and R2 with 11.6: a frame of content length L holds the line for L + 8 character times of ten bits, and its
line levels bring a receiver the command it stands for, whatever follows; with another check, a frame-check failure.
The levels of start, data and stop bits are log entry 39. -/
def Says.FramesReadBack : Prop :=
  (∀ (type : Byte) (content : List Byte),
    (frameBits (frameBytes type content)).length = 10 * (content.length + 8) ∧
    frameTime content.length = 10 * (content.length + 8)) ∧
  ∀ (p : Port) (idle : Nat) (more : List Bool),
    let brings (bytes : List Byte) (c : Instr) :=
      receive p (.takes idle []) (frameBits bytes ++ more) = c :: receive p (.takes 30 []) more
    (∀ (i : Ident) (x : Byte), brings (frameBytes markType (markContent i x)) (.markReceived p i x)) ∧
    ∀ t : Telegram, t.hdr.plen.toNat ≤ 464 → t.hdr.plen.toNat = t.payload.length →
      brings (frameBytes telegramType (telegramBytes t)) (telegramRow p t) ∧
      ∀ w : Word, w ≠ frameCheck (telegramType :: telegramBytes t) →
        brings ([0x55, 0xD3, telegramType] ++ telegramBytes t ++ wordBytes w) (.frameCheckFailure p)

/-- R2 with R1: the framing errors of a receiver, one for each frame or run of characters: a character with no stop
bit, characters that open no frame, an unknown frame type, a payload length above 464, more than two character times
of idle line inside a frame, a run outside one that idle line ends; and the wait after one. That a run outside a frame
waits like any framing error, and which bits count while it waits, is log entry 39. -/
def Says.FramingErrors : Prop :=
  ∀ (p : Port) (idle : Nat) (more : List Bool),
    let low := !idleLevel
    let line (bytes : List Byte) : List Bool := bytes.flatMap charBits
    let quiet (n : Nat) : List Bool := List.replicate n idleLevel
    let fails (bits : List Bool) := receive p (.takes idle []) (bits ++ more) =
      .framingError p :: receive p (.waits 0) more
    (∀ b0 b1 b2 b3 b4 b5 b6 b7 : Bool, ∀ chars : List Byte,
      receive p (.takes idle chars) ([low, b0, b1, b2, b3, b4, b5, b6, b7, low] ++ more) =
        .framingError p :: receive p (.waits 0) more) ∧
    (∀ b : Byte, b ≠ 0x55 → fails (line [b])) ∧
    (∀ b : Byte, b ≠ 0xD3 → fails (line [0x55, b])) ∧
    (∀ b : Byte, b ≠ markType → b ≠ telegramType → fails (line [0x55, 0xD3, b])) ∧
    (∀ h : Header, 464 < h.plen.toNat → fails (line ([0x55, 0xD3, telegramType] ++ headerBytes h))) ∧
    (∀ (type : Byte) (content : List Byte) (n : Nat), 1 ≤ n → n < content.length + 5 →
      (type = markType ∧ content.length = 5) ∨
        (type = telegramType ∧ ∃ t : Telegram, content = telegramBytes t ∧ t.hdr.plen.toNat = t.payload.length ∧
          t.payload.length ≤ 464) →
      receive p (.takes idle []) (line ((frameBytes type content).take n) ++ quiet 21 ++ more) =
        .framingError p :: receive p (.takes 21 []) more) ∧
    (receive p (.takes idle []) (line [0x55] ++ quiet 20 ++ more) =
      .framingError p :: receive p (.takes 20 []) more) ∧
    (∀ n, 20 ≤ n → receive p (.waits 0) (quiet n ++ more) = receive p (.takes n []) more) ∧
    ∀ k, receive p (.waits k) (low :: more) = receive p (.waits 0) more

/-- R1, R2, R169, R183 with 11.3 and 11.6: decode of encode is the identity, for telegrams, slot bodies and frames, and
what a receiver makes of line levels that are no frame's. -/
def Obligations.ReadBack : Prop :=
  Says.TelegramsReadBack ∧ Says.SlotBodiesReadBack ∧ Says.FramesReadBack ∧ Says.FramingErrors

/-! ## Invariants -/

/-- R166 and R175: every step keeps the delivery queues within their bounds and the host's memory a canonical
list of host-written words. -/
def Obligations.InterfaceKept : Prop :=
  ∀ s t : State, s.ifc.queuesBounded → s.host.wf = true → s.host.hostOnly → step s = .next t →
    t.ifc.queuesBounded ∧ t.host.wf = true ∧ t.host.hostOnly

/-- R100, R88: every step keeps every release output on only under its condition. -/
def Obligations.ReleaseKept : Prop :=
  ∀ s t : State, s.blk.releaseSafe → step s = .next t → t.blk.releaseSafe

/-- R20, R21: every step keeps role, table, cab end, sweep state and carried sweep consistent. -/
def Obligations.ConsistKept : Prop :=
  ∀ s t : State, s.blk.consist.wf → step s = .next t → t.blk.consist.wf

/-- R51: every step keeps the cell pool within its bound, the reserve for SAFETY held. -/
def Obligations.PoolKept : Prop :=
  ∀ s t : State, s.blk.poolSafe → step s = .next t → t.blk.poolSafe

/-- R75 and R178: every step keeps the motion record and the profile in their ranges. -/
def Obligations.RangesKept : Prop :=
  ∀ s t : State, s.blk.motion.inRange → s.blk.profile.inRange → step s = .next t →
    t.blk.motion.inRange ∧ t.blk.profile.inRange

/-- The invariants hold after reset. -/
def Obligations.ResetSatisfies : Prop :=
  State.reset.ifc.queuesBounded ∧ State.reset.host.wf = true ∧ State.reset.host.hostOnly ∧
  State.reset.blk.releaseSafe ∧ State.reset.blk.consist.wf ∧ State.reset.blk.poolSafe ∧
  State.reset.blk.motion.inRange ∧ State.reset.blk.profile.inRange
end

