-- ==== Sys2Proof/Laws/Codes.lean ====
section
/-! SUPPORT. Codes and layouts: what each code reads back as, and bytes, words and identities taken apart and joined. -/

namespace Sys2Proof.Machine

theorem satInc_eq (w : Word) : satInc w = if w = 65535 then 65535 else w + 1 := by
  unfold satInc
  split <;> simp_all

theorem kindOf_iff (n : Nat) (k : Kind) : kindOf n = some k ↔ kindNum k = n := by
  constructor
  · intro h
    unfold kindOf at h
    split at h <;> (first | (injection h with h; subst h; rfl) | simp at h)
  · intro h
    subst h
    cases k <;> rfl

theorem clsOf_iff (n : Nat) (c : Cls) : clsOf n = some c ↔ (clsIdx c).val = n := by
  constructor
  · intro h
    unfold clsOf at h
    split at h <;> (first | (injection h with h; subst h; rfl) | simp at h)
  · intro h
    subst h
    cases c <;> rfl

theorem modeOf_iff (n : Nat) (m : Mode) : modeOf n = some m ↔ modeNum m = n := by
  constructor
  · intro h
    unfold modeOf at h
    split at h <;> (first | (injection h with h; subst h; rfl) | simp at h)
  · intro h
    subst h
    cases m <;> rfl

theorem portOf_iff (b : Byte) (p : Port) : portOf b = some p ↔ b.toNat = portNum p := by
  revert b
  cases p <;> decide

@[simp] theorem portOther_portOther (p : Port) : portOther (portOther p) = p := by cases p <;> rfl

theorem portOther_ne (p : Port) : portOther p ≠ p := by cases p <;> simp [portOther]

/-- A word read back from its two bytes. -/
@[simp] theorem packWord_bytes (w : Word) : packWord (loByte w) (hiByte w) = w := by
  apply BitVec.eq_of_getLsbD_eq
  intro i hi
  simp only [packWord, loByte, hiByte, BitVec.getLsbD_append, BitVec.getLsbD_setWidth, BitVec.getLsbD_ushiftRight]
  by_cases h : i < 8
  · simp [h]
  · simp only [h]
    have h1 : i - 8 < 8 := by omega
    have h2 : 8 + (i - 8) = i := by omega
    simp [h1, h2]

@[simp] theorem loByte_packWord (a b : Byte) : loByte (packWord a b) = a := by
  apply BitVec.eq_of_getLsbD_eq
  intro i hi
  simp only [loByte, packWord, BitVec.getLsbD_setWidth, BitVec.getLsbD_append]
  simp [hi]

@[simp] theorem hiByte_packWord (a b : Byte) : hiByte (packWord a b) = b := by
  apply BitVec.eq_of_getLsbD_eq
  intro i hi
  simp only [hiByte, packWord, BitVec.getLsbD_setWidth, BitVec.getLsbD_ushiftRight, BitVec.getLsbD_append]
  simp [hi]

/-- A 32-bit number read back from its halves. -/
@[simp] theorem joinWide_halves (i : BitVec 32) : joinWide (loHalf i) (hiHalf i) = i := by
  apply BitVec.eq_of_getLsbD_eq
  intro k hk
  simp only [joinWide, loHalf, hiHalf, BitVec.getLsbD_append, BitVec.getLsbD_setWidth, BitVec.getLsbD_ushiftRight]
  by_cases h : k < 16
  · simp [h]
  · simp only [h]
    have h1 : k - 16 < 16 := by omega
    have h2 : 16 + (k - 16) = k := by omega
    simp [h1, h2]

/-- An identity read back from its four bytes. -/
theorem joinIdent_bytes (i : Ident) :
    joinIdent (loByte (loHalf i)) (hiByte (loHalf i)) (loByte (hiHalf i)) (hiByte (hiHalf i)) = i := by
  simp [joinIdent]

end Sys2Proof.Machine
end

