-- ==== Sys2Proof/Laws/State.lean ====
section
/-! SUPPORT. One lemma per field per update of an event in progress, so that no later proof unfolds a record update. -/

namespace Sys2Proof.Machine

/-! ## setConsist -/

@[simp] theorem Ev.setConsist_toBlocks (e : Ev) (x : Consist) :
    (e.setConsist x).toBlocks = { e.toBlocks with consist := x } := rfl

@[simp] theorem Ev.setConsist_tick (e : Ev) (x : Consist) : (e.setConsist x).tick = e.tick := rfl

@[simp] theorem Ev.setConsist_profile (e : Ev) (x : Consist) : (e.setConsist x).profile = e.profile := rfl

@[simp] theorem Ev.setConsist_port1 (e : Ev) (x : Consist) : (e.setConsist x).port1 = e.port1 := rfl

@[simp] theorem Ev.setConsist_port2 (e : Ev) (x : Consist) : (e.setConsist x).port2 = e.port2 := rfl

@[simp] theorem Ev.setConsist_relay (e : Ev) (x : Consist) : (e.setConsist x).relay = e.relay := rfl

@[simp] theorem Ev.setConsist_consist (e : Ev) (x : Consist) : (e.setConsist x).consist = x := rfl

@[simp] theorem Ev.setConsist_motion (e : Ev) (x : Consist) : (e.setConsist x).motion = e.motion := rfl

@[simp] theorem Ev.setConsist_doors (e : Ev) (x : Consist) : (e.setConsist x).doors = e.doors := rfl

@[simp] theorem Ev.setConsist_summary (e : Ev) (x : Consist) : (e.setConsist x).summary = e.summary := rfl

@[simp] theorem Ev.setConsist_converter (e : Ev) (x : Consist) : (e.setConsist x).converter = e.converter := rfl

@[simp] theorem Ev.setConsist_demand (e : Ev) (x : Consist) : (e.setConsist x).demand = e.demand := rfl

@[simp] theorem Ev.setConsist_monitor (e : Ev) (x : Consist) : (e.setConsist x).monitor = e.monitor := rfl

@[simp] theorem Ev.setConsist_alloc (e : Ev) (x : Consist) : (e.setConsist x).alloc = e.alloc := rfl

@[simp] theorem Ev.setConsist_heater (e : Ev) (x : Consist) : (e.setConsist x).heater = e.heater := rfl

@[simp] theorem Ev.setConsist_origCount (e : Ev) (x : Consist) : (e.setConsist x).origCount = e.origCount := rfl

@[simp] theorem Ev.setConsist_effects (e : Ev) (x : Consist) : (e.setConsist x).effects = e.effects := rfl

@[simp] theorem Ev.setConsist_asks (e : Ev) (x : Consist) : (e.setConsist x).asks = e.asks := rfl

/-! ## setDoors -/

@[simp] theorem Ev.setDoors_toBlocks (e : Ev) (x : Doors) :
    (e.setDoors x).toBlocks = { e.toBlocks with doors := x } := rfl

@[simp] theorem Ev.setDoors_tick (e : Ev) (x : Doors) : (e.setDoors x).tick = e.tick := rfl

@[simp] theorem Ev.setDoors_profile (e : Ev) (x : Doors) : (e.setDoors x).profile = e.profile := rfl

@[simp] theorem Ev.setDoors_port1 (e : Ev) (x : Doors) : (e.setDoors x).port1 = e.port1 := rfl

@[simp] theorem Ev.setDoors_port2 (e : Ev) (x : Doors) : (e.setDoors x).port2 = e.port2 := rfl

@[simp] theorem Ev.setDoors_relay (e : Ev) (x : Doors) : (e.setDoors x).relay = e.relay := rfl

@[simp] theorem Ev.setDoors_consist (e : Ev) (x : Doors) : (e.setDoors x).consist = e.consist := rfl

@[simp] theorem Ev.setDoors_motion (e : Ev) (x : Doors) : (e.setDoors x).motion = e.motion := rfl

@[simp] theorem Ev.setDoors_doors (e : Ev) (x : Doors) : (e.setDoors x).doors = x := rfl

@[simp] theorem Ev.setDoors_summary (e : Ev) (x : Doors) : (e.setDoors x).summary = e.summary := rfl

@[simp] theorem Ev.setDoors_converter (e : Ev) (x : Doors) : (e.setDoors x).converter = e.converter := rfl

@[simp] theorem Ev.setDoors_demand (e : Ev) (x : Doors) : (e.setDoors x).demand = e.demand := rfl

@[simp] theorem Ev.setDoors_monitor (e : Ev) (x : Doors) : (e.setDoors x).monitor = e.monitor := rfl

@[simp] theorem Ev.setDoors_alloc (e : Ev) (x : Doors) : (e.setDoors x).alloc = e.alloc := rfl

@[simp] theorem Ev.setDoors_heater (e : Ev) (x : Doors) : (e.setDoors x).heater = e.heater := rfl

@[simp] theorem Ev.setDoors_origCount (e : Ev) (x : Doors) : (e.setDoors x).origCount = e.origCount := rfl

@[simp] theorem Ev.setDoors_effects (e : Ev) (x : Doors) : (e.setDoors x).effects = e.effects := rfl

@[simp] theorem Ev.setDoors_asks (e : Ev) (x : Doors) : (e.setDoors x).asks = e.asks := rfl

/-! ## setHeater -/

@[simp] theorem Ev.setHeater_toBlocks (e : Ev) (x : Heater) :
    (e.setHeater x).toBlocks = { e.toBlocks with heater := x } := rfl

@[simp] theorem Ev.setHeater_tick (e : Ev) (x : Heater) : (e.setHeater x).tick = e.tick := rfl

@[simp] theorem Ev.setHeater_profile (e : Ev) (x : Heater) : (e.setHeater x).profile = e.profile := rfl

@[simp] theorem Ev.setHeater_port1 (e : Ev) (x : Heater) : (e.setHeater x).port1 = e.port1 := rfl

@[simp] theorem Ev.setHeater_port2 (e : Ev) (x : Heater) : (e.setHeater x).port2 = e.port2 := rfl

@[simp] theorem Ev.setHeater_relay (e : Ev) (x : Heater) : (e.setHeater x).relay = e.relay := rfl

@[simp] theorem Ev.setHeater_consist (e : Ev) (x : Heater) : (e.setHeater x).consist = e.consist := rfl

@[simp] theorem Ev.setHeater_motion (e : Ev) (x : Heater) : (e.setHeater x).motion = e.motion := rfl

@[simp] theorem Ev.setHeater_doors (e : Ev) (x : Heater) : (e.setHeater x).doors = e.doors := rfl

@[simp] theorem Ev.setHeater_summary (e : Ev) (x : Heater) : (e.setHeater x).summary = e.summary := rfl

@[simp] theorem Ev.setHeater_converter (e : Ev) (x : Heater) : (e.setHeater x).converter = e.converter := rfl

@[simp] theorem Ev.setHeater_demand (e : Ev) (x : Heater) : (e.setHeater x).demand = e.demand := rfl

@[simp] theorem Ev.setHeater_monitor (e : Ev) (x : Heater) : (e.setHeater x).monitor = e.monitor := rfl

@[simp] theorem Ev.setHeater_alloc (e : Ev) (x : Heater) : (e.setHeater x).alloc = e.alloc := rfl

@[simp] theorem Ev.setHeater_heater (e : Ev) (x : Heater) : (e.setHeater x).heater = x := rfl

@[simp] theorem Ev.setHeater_origCount (e : Ev) (x : Heater) : (e.setHeater x).origCount = e.origCount := rfl

@[simp] theorem Ev.setHeater_effects (e : Ev) (x : Heater) : (e.setHeater x).effects = e.effects := rfl

@[simp] theorem Ev.setHeater_asks (e : Ev) (x : Heater) : (e.setHeater x).asks = e.asks := rfl

/-! ## setAlloc -/

@[simp] theorem Ev.setAlloc_toBlocks (e : Ev) (x : Alloc) :
    (e.setAlloc x).toBlocks = { e.toBlocks with alloc := x } := rfl

@[simp] theorem Ev.setAlloc_tick (e : Ev) (x : Alloc) : (e.setAlloc x).tick = e.tick := rfl

@[simp] theorem Ev.setAlloc_profile (e : Ev) (x : Alloc) : (e.setAlloc x).profile = e.profile := rfl

@[simp] theorem Ev.setAlloc_port1 (e : Ev) (x : Alloc) : (e.setAlloc x).port1 = e.port1 := rfl

@[simp] theorem Ev.setAlloc_port2 (e : Ev) (x : Alloc) : (e.setAlloc x).port2 = e.port2 := rfl

@[simp] theorem Ev.setAlloc_relay (e : Ev) (x : Alloc) : (e.setAlloc x).relay = e.relay := rfl

@[simp] theorem Ev.setAlloc_consist (e : Ev) (x : Alloc) : (e.setAlloc x).consist = e.consist := rfl

@[simp] theorem Ev.setAlloc_motion (e : Ev) (x : Alloc) : (e.setAlloc x).motion = e.motion := rfl

@[simp] theorem Ev.setAlloc_doors (e : Ev) (x : Alloc) : (e.setAlloc x).doors = e.doors := rfl

@[simp] theorem Ev.setAlloc_summary (e : Ev) (x : Alloc) : (e.setAlloc x).summary = e.summary := rfl

@[simp] theorem Ev.setAlloc_converter (e : Ev) (x : Alloc) : (e.setAlloc x).converter = e.converter := rfl

@[simp] theorem Ev.setAlloc_demand (e : Ev) (x : Alloc) : (e.setAlloc x).demand = e.demand := rfl

@[simp] theorem Ev.setAlloc_monitor (e : Ev) (x : Alloc) : (e.setAlloc x).monitor = e.monitor := rfl

@[simp] theorem Ev.setAlloc_alloc (e : Ev) (x : Alloc) : (e.setAlloc x).alloc = x := rfl

@[simp] theorem Ev.setAlloc_heater (e : Ev) (x : Alloc) : (e.setAlloc x).heater = e.heater := rfl

@[simp] theorem Ev.setAlloc_origCount (e : Ev) (x : Alloc) : (e.setAlloc x).origCount = e.origCount := rfl

@[simp] theorem Ev.setAlloc_effects (e : Ev) (x : Alloc) : (e.setAlloc x).effects = e.effects := rfl

@[simp] theorem Ev.setAlloc_asks (e : Ev) (x : Alloc) : (e.setAlloc x).asks = e.asks := rfl

/-! ## setSummary -/

@[simp] theorem Ev.setSummary_toBlocks (e : Ev) (x : Judgement) :
    (e.setSummary x).toBlocks = { e.toBlocks with summary := x } := rfl

@[simp] theorem Ev.setSummary_tick (e : Ev) (x : Judgement) : (e.setSummary x).tick = e.tick := rfl

@[simp] theorem Ev.setSummary_profile (e : Ev) (x : Judgement) : (e.setSummary x).profile = e.profile := rfl

@[simp] theorem Ev.setSummary_port1 (e : Ev) (x : Judgement) : (e.setSummary x).port1 = e.port1 := rfl

@[simp] theorem Ev.setSummary_port2 (e : Ev) (x : Judgement) : (e.setSummary x).port2 = e.port2 := rfl

@[simp] theorem Ev.setSummary_relay (e : Ev) (x : Judgement) : (e.setSummary x).relay = e.relay := rfl

@[simp] theorem Ev.setSummary_consist (e : Ev) (x : Judgement) : (e.setSummary x).consist = e.consist := rfl

@[simp] theorem Ev.setSummary_motion (e : Ev) (x : Judgement) : (e.setSummary x).motion = e.motion := rfl

@[simp] theorem Ev.setSummary_doors (e : Ev) (x : Judgement) : (e.setSummary x).doors = e.doors := rfl

@[simp] theorem Ev.setSummary_summary (e : Ev) (x : Judgement) : (e.setSummary x).summary = x := rfl

@[simp] theorem Ev.setSummary_converter (e : Ev) (x : Judgement) : (e.setSummary x).converter = e.converter := rfl

@[simp] theorem Ev.setSummary_demand (e : Ev) (x : Judgement) : (e.setSummary x).demand = e.demand := rfl

@[simp] theorem Ev.setSummary_monitor (e : Ev) (x : Judgement) : (e.setSummary x).monitor = e.monitor := rfl

@[simp] theorem Ev.setSummary_alloc (e : Ev) (x : Judgement) : (e.setSummary x).alloc = e.alloc := rfl

@[simp] theorem Ev.setSummary_heater (e : Ev) (x : Judgement) : (e.setSummary x).heater = e.heater := rfl

@[simp] theorem Ev.setSummary_origCount (e : Ev) (x : Judgement) : (e.setSummary x).origCount = e.origCount := rfl

@[simp] theorem Ev.setSummary_effects (e : Ev) (x : Judgement) : (e.setSummary x).effects = e.effects := rfl

@[simp] theorem Ev.setSummary_asks (e : Ev) (x : Judgement) : (e.setSummary x).asks = e.asks := rfl

/-! ## setMotion -/

@[simp] theorem Ev.setMotion_toBlocks (e : Ev) (x : Motion) :
    (e.setMotion x).toBlocks = { e.toBlocks with motion := x } := rfl

@[simp] theorem Ev.setMotion_tick (e : Ev) (x : Motion) : (e.setMotion x).tick = e.tick := rfl

@[simp] theorem Ev.setMotion_profile (e : Ev) (x : Motion) : (e.setMotion x).profile = e.profile := rfl

@[simp] theorem Ev.setMotion_port1 (e : Ev) (x : Motion) : (e.setMotion x).port1 = e.port1 := rfl

@[simp] theorem Ev.setMotion_port2 (e : Ev) (x : Motion) : (e.setMotion x).port2 = e.port2 := rfl

@[simp] theorem Ev.setMotion_relay (e : Ev) (x : Motion) : (e.setMotion x).relay = e.relay := rfl

@[simp] theorem Ev.setMotion_consist (e : Ev) (x : Motion) : (e.setMotion x).consist = e.consist := rfl

@[simp] theorem Ev.setMotion_motion (e : Ev) (x : Motion) : (e.setMotion x).motion = x := rfl

@[simp] theorem Ev.setMotion_doors (e : Ev) (x : Motion) : (e.setMotion x).doors = e.doors := rfl

@[simp] theorem Ev.setMotion_summary (e : Ev) (x : Motion) : (e.setMotion x).summary = e.summary := rfl

@[simp] theorem Ev.setMotion_converter (e : Ev) (x : Motion) : (e.setMotion x).converter = e.converter := rfl

@[simp] theorem Ev.setMotion_demand (e : Ev) (x : Motion) : (e.setMotion x).demand = e.demand := rfl

@[simp] theorem Ev.setMotion_monitor (e : Ev) (x : Motion) : (e.setMotion x).monitor = e.monitor := rfl

@[simp] theorem Ev.setMotion_alloc (e : Ev) (x : Motion) : (e.setMotion x).alloc = e.alloc := rfl

@[simp] theorem Ev.setMotion_heater (e : Ev) (x : Motion) : (e.setMotion x).heater = e.heater := rfl

@[simp] theorem Ev.setMotion_origCount (e : Ev) (x : Motion) : (e.setMotion x).origCount = e.origCount := rfl

@[simp] theorem Ev.setMotion_effects (e : Ev) (x : Motion) : (e.setMotion x).effects = e.effects := rfl

@[simp] theorem Ev.setMotion_asks (e : Ev) (x : Motion) : (e.setMotion x).asks = e.asks := rfl

/-! ## setConverter -/

@[simp] theorem Ev.setConverter_toBlocks (e : Ev) (x : Converter) :
    (e.setConverter x).toBlocks = { e.toBlocks with converter := x } := rfl

@[simp] theorem Ev.setConverter_tick (e : Ev) (x : Converter) : (e.setConverter x).tick = e.tick := rfl

@[simp] theorem Ev.setConverter_profile (e : Ev) (x : Converter) : (e.setConverter x).profile = e.profile := rfl

@[simp] theorem Ev.setConverter_port1 (e : Ev) (x : Converter) : (e.setConverter x).port1 = e.port1 := rfl

@[simp] theorem Ev.setConverter_port2 (e : Ev) (x : Converter) : (e.setConverter x).port2 = e.port2 := rfl

@[simp] theorem Ev.setConverter_relay (e : Ev) (x : Converter) : (e.setConverter x).relay = e.relay := rfl

@[simp] theorem Ev.setConverter_consist (e : Ev) (x : Converter) : (e.setConverter x).consist = e.consist := rfl

@[simp] theorem Ev.setConverter_motion (e : Ev) (x : Converter) : (e.setConverter x).motion = e.motion := rfl

@[simp] theorem Ev.setConverter_doors (e : Ev) (x : Converter) : (e.setConverter x).doors = e.doors := rfl

@[simp] theorem Ev.setConverter_summary (e : Ev) (x : Converter) : (e.setConverter x).summary = e.summary := rfl

@[simp] theorem Ev.setConverter_converter (e : Ev) (x : Converter) : (e.setConverter x).converter = x := rfl

@[simp] theorem Ev.setConverter_demand (e : Ev) (x : Converter) : (e.setConverter x).demand = e.demand := rfl

@[simp] theorem Ev.setConverter_monitor (e : Ev) (x : Converter) : (e.setConverter x).monitor = e.monitor := rfl

@[simp] theorem Ev.setConverter_alloc (e : Ev) (x : Converter) : (e.setConverter x).alloc = e.alloc := rfl

@[simp] theorem Ev.setConverter_heater (e : Ev) (x : Converter) : (e.setConverter x).heater = e.heater := rfl

@[simp] theorem Ev.setConverter_origCount (e : Ev) (x : Converter) : (e.setConverter x).origCount = e.origCount := rfl

@[simp] theorem Ev.setConverter_effects (e : Ev) (x : Converter) : (e.setConverter x).effects = e.effects := rfl

@[simp] theorem Ev.setConverter_asks (e : Ev) (x : Converter) : (e.setConverter x).asks = e.asks := rfl

/-! ## setMonitor -/

@[simp] theorem Ev.setMonitor_toBlocks (e : Ev) (x : Monitor) :
    (e.setMonitor x).toBlocks = { e.toBlocks with monitor := x } := rfl

@[simp] theorem Ev.setMonitor_tick (e : Ev) (x : Monitor) : (e.setMonitor x).tick = e.tick := rfl

@[simp] theorem Ev.setMonitor_profile (e : Ev) (x : Monitor) : (e.setMonitor x).profile = e.profile := rfl

@[simp] theorem Ev.setMonitor_port1 (e : Ev) (x : Monitor) : (e.setMonitor x).port1 = e.port1 := rfl

@[simp] theorem Ev.setMonitor_port2 (e : Ev) (x : Monitor) : (e.setMonitor x).port2 = e.port2 := rfl

@[simp] theorem Ev.setMonitor_relay (e : Ev) (x : Monitor) : (e.setMonitor x).relay = e.relay := rfl

@[simp] theorem Ev.setMonitor_consist (e : Ev) (x : Monitor) : (e.setMonitor x).consist = e.consist := rfl

@[simp] theorem Ev.setMonitor_motion (e : Ev) (x : Monitor) : (e.setMonitor x).motion = e.motion := rfl

@[simp] theorem Ev.setMonitor_doors (e : Ev) (x : Monitor) : (e.setMonitor x).doors = e.doors := rfl

@[simp] theorem Ev.setMonitor_summary (e : Ev) (x : Monitor) : (e.setMonitor x).summary = e.summary := rfl

@[simp] theorem Ev.setMonitor_converter (e : Ev) (x : Monitor) : (e.setMonitor x).converter = e.converter := rfl

@[simp] theorem Ev.setMonitor_demand (e : Ev) (x : Monitor) : (e.setMonitor x).demand = e.demand := rfl

@[simp] theorem Ev.setMonitor_monitor (e : Ev) (x : Monitor) : (e.setMonitor x).monitor = x := rfl

@[simp] theorem Ev.setMonitor_alloc (e : Ev) (x : Monitor) : (e.setMonitor x).alloc = e.alloc := rfl

@[simp] theorem Ev.setMonitor_heater (e : Ev) (x : Monitor) : (e.setMonitor x).heater = e.heater := rfl

@[simp] theorem Ev.setMonitor_origCount (e : Ev) (x : Monitor) : (e.setMonitor x).origCount = e.origCount := rfl

@[simp] theorem Ev.setMonitor_effects (e : Ev) (x : Monitor) : (e.setMonitor x).effects = e.effects := rfl

@[simp] theorem Ev.setMonitor_asks (e : Ev) (x : Monitor) : (e.setMonitor x).asks = e.asks := rfl

/-! ## setDemand -/

@[simp] theorem Ev.setDemand_toBlocks (e : Ev) (x : Demand) :
    (e.setDemand x).toBlocks = { e.toBlocks with demand := x } := rfl

@[simp] theorem Ev.setDemand_tick (e : Ev) (x : Demand) : (e.setDemand x).tick = e.tick := rfl

@[simp] theorem Ev.setDemand_profile (e : Ev) (x : Demand) : (e.setDemand x).profile = e.profile := rfl

@[simp] theorem Ev.setDemand_port1 (e : Ev) (x : Demand) : (e.setDemand x).port1 = e.port1 := rfl

@[simp] theorem Ev.setDemand_port2 (e : Ev) (x : Demand) : (e.setDemand x).port2 = e.port2 := rfl

@[simp] theorem Ev.setDemand_relay (e : Ev) (x : Demand) : (e.setDemand x).relay = e.relay := rfl

@[simp] theorem Ev.setDemand_consist (e : Ev) (x : Demand) : (e.setDemand x).consist = e.consist := rfl

@[simp] theorem Ev.setDemand_motion (e : Ev) (x : Demand) : (e.setDemand x).motion = e.motion := rfl

@[simp] theorem Ev.setDemand_doors (e : Ev) (x : Demand) : (e.setDemand x).doors = e.doors := rfl

@[simp] theorem Ev.setDemand_summary (e : Ev) (x : Demand) : (e.setDemand x).summary = e.summary := rfl

@[simp] theorem Ev.setDemand_converter (e : Ev) (x : Demand) : (e.setDemand x).converter = e.converter := rfl

@[simp] theorem Ev.setDemand_demand (e : Ev) (x : Demand) : (e.setDemand x).demand = x := rfl

@[simp] theorem Ev.setDemand_monitor (e : Ev) (x : Demand) : (e.setDemand x).monitor = e.monitor := rfl

@[simp] theorem Ev.setDemand_alloc (e : Ev) (x : Demand) : (e.setDemand x).alloc = e.alloc := rfl

@[simp] theorem Ev.setDemand_heater (e : Ev) (x : Demand) : (e.setDemand x).heater = e.heater := rfl

@[simp] theorem Ev.setDemand_origCount (e : Ev) (x : Demand) : (e.setDemand x).origCount = e.origCount := rfl

@[simp] theorem Ev.setDemand_effects (e : Ev) (x : Demand) : (e.setDemand x).effects = e.effects := rfl

@[simp] theorem Ev.setDemand_asks (e : Ev) (x : Demand) : (e.setDemand x).asks = e.asks := rfl

/-! ## setRelay -/

@[simp] theorem Ev.setRelay_toBlocks (e : Ev) (x : Relay) :
    (e.setRelay x).toBlocks = { e.toBlocks with relay := x } := rfl

@[simp] theorem Ev.setRelay_tick (e : Ev) (x : Relay) : (e.setRelay x).tick = e.tick := rfl

@[simp] theorem Ev.setRelay_profile (e : Ev) (x : Relay) : (e.setRelay x).profile = e.profile := rfl

@[simp] theorem Ev.setRelay_port1 (e : Ev) (x : Relay) : (e.setRelay x).port1 = e.port1 := rfl

@[simp] theorem Ev.setRelay_port2 (e : Ev) (x : Relay) : (e.setRelay x).port2 = e.port2 := rfl

@[simp] theorem Ev.setRelay_relay (e : Ev) (x : Relay) : (e.setRelay x).relay = x := rfl

@[simp] theorem Ev.setRelay_consist (e : Ev) (x : Relay) : (e.setRelay x).consist = e.consist := rfl

@[simp] theorem Ev.setRelay_motion (e : Ev) (x : Relay) : (e.setRelay x).motion = e.motion := rfl

@[simp] theorem Ev.setRelay_doors (e : Ev) (x : Relay) : (e.setRelay x).doors = e.doors := rfl

@[simp] theorem Ev.setRelay_summary (e : Ev) (x : Relay) : (e.setRelay x).summary = e.summary := rfl

@[simp] theorem Ev.setRelay_converter (e : Ev) (x : Relay) : (e.setRelay x).converter = e.converter := rfl

@[simp] theorem Ev.setRelay_demand (e : Ev) (x : Relay) : (e.setRelay x).demand = e.demand := rfl

@[simp] theorem Ev.setRelay_monitor (e : Ev) (x : Relay) : (e.setRelay x).monitor = e.monitor := rfl

@[simp] theorem Ev.setRelay_alloc (e : Ev) (x : Relay) : (e.setRelay x).alloc = e.alloc := rfl

@[simp] theorem Ev.setRelay_heater (e : Ev) (x : Relay) : (e.setRelay x).heater = e.heater := rfl

@[simp] theorem Ev.setRelay_origCount (e : Ev) (x : Relay) : (e.setRelay x).origCount = e.origCount := rfl

@[simp] theorem Ev.setRelay_effects (e : Ev) (x : Relay) : (e.setRelay x).effects = e.effects := rfl

@[simp] theorem Ev.setRelay_asks (e : Ev) (x : Relay) : (e.setRelay x).asks = e.asks := rfl

/-! ## emit -/

@[simp] theorem Ev.emit_toBlocks (e : Ev) (x : Effect) : (e.emit x).toBlocks = e.toBlocks := rfl

@[simp] theorem Ev.emit_tick (e : Ev) (x : Effect) : (e.emit x).tick = e.tick := rfl

@[simp] theorem Ev.emit_profile (e : Ev) (x : Effect) : (e.emit x).profile = e.profile := rfl

@[simp] theorem Ev.emit_port1 (e : Ev) (x : Effect) : (e.emit x).port1 = e.port1 := rfl

@[simp] theorem Ev.emit_port2 (e : Ev) (x : Effect) : (e.emit x).port2 = e.port2 := rfl

@[simp] theorem Ev.emit_relay (e : Ev) (x : Effect) : (e.emit x).relay = e.relay := rfl

@[simp] theorem Ev.emit_consist (e : Ev) (x : Effect) : (e.emit x).consist = e.consist := rfl

@[simp] theorem Ev.emit_motion (e : Ev) (x : Effect) : (e.emit x).motion = e.motion := rfl

@[simp] theorem Ev.emit_doors (e : Ev) (x : Effect) : (e.emit x).doors = e.doors := rfl

@[simp] theorem Ev.emit_summary (e : Ev) (x : Effect) : (e.emit x).summary = e.summary := rfl

@[simp] theorem Ev.emit_converter (e : Ev) (x : Effect) : (e.emit x).converter = e.converter := rfl

@[simp] theorem Ev.emit_demand (e : Ev) (x : Effect) : (e.emit x).demand = e.demand := rfl

@[simp] theorem Ev.emit_monitor (e : Ev) (x : Effect) : (e.emit x).monitor = e.monitor := rfl

@[simp] theorem Ev.emit_alloc (e : Ev) (x : Effect) : (e.emit x).alloc = e.alloc := rfl

@[simp] theorem Ev.emit_heater (e : Ev) (x : Effect) : (e.emit x).heater = e.heater := rfl

@[simp] theorem Ev.emit_origCount (e : Ev) (x : Effect) : (e.emit x).origCount = e.origCount := rfl

@[simp] theorem Ev.emit_effects (e : Ev) (x : Effect) : (e.emit x).effects = e.effects ++ [x] := rfl

@[simp] theorem Ev.emit_asks (e : Ev) (x : Effect) : (e.emit x).asks = e.asks := rfl

/-! ## ask -/

@[simp] theorem Ev.ask_toBlocks (e : Ev) (p : PageId) : (e.ask p).toBlocks = e.toBlocks := rfl

@[simp] theorem Ev.ask_tick (e : Ev) (p : PageId) : (e.ask p).tick = e.tick := rfl

@[simp] theorem Ev.ask_profile (e : Ev) (p : PageId) : (e.ask p).profile = e.profile := rfl

@[simp] theorem Ev.ask_port1 (e : Ev) (p : PageId) : (e.ask p).port1 = e.port1 := rfl

@[simp] theorem Ev.ask_port2 (e : Ev) (p : PageId) : (e.ask p).port2 = e.port2 := rfl

@[simp] theorem Ev.ask_relay (e : Ev) (p : PageId) : (e.ask p).relay = e.relay := rfl

@[simp] theorem Ev.ask_consist (e : Ev) (p : PageId) : (e.ask p).consist = e.consist := rfl

@[simp] theorem Ev.ask_motion (e : Ev) (p : PageId) : (e.ask p).motion = e.motion := rfl

@[simp] theorem Ev.ask_doors (e : Ev) (p : PageId) : (e.ask p).doors = e.doors := rfl

@[simp] theorem Ev.ask_summary (e : Ev) (p : PageId) : (e.ask p).summary = e.summary := rfl

@[simp] theorem Ev.ask_converter (e : Ev) (p : PageId) : (e.ask p).converter = e.converter := rfl

@[simp] theorem Ev.ask_demand (e : Ev) (p : PageId) : (e.ask p).demand = e.demand := rfl

@[simp] theorem Ev.ask_monitor (e : Ev) (p : PageId) : (e.ask p).monitor = e.monitor := rfl

@[simp] theorem Ev.ask_alloc (e : Ev) (p : PageId) : (e.ask p).alloc = e.alloc := rfl

@[simp] theorem Ev.ask_heater (e : Ev) (p : PageId) : (e.ask p).heater = e.heater := rfl

@[simp] theorem Ev.ask_origCount (e : Ev) (p : PageId) : (e.ask p).origCount = e.origCount := rfl

@[simp] theorem Ev.ask_effects (e : Ev) (p : PageId) : (e.ask p).effects = e.effects := rfl

@[simp] theorem Ev.ask_asks (e : Ev) (p : PageId) : (e.ask p).asks = p :: e.asks := rfl

/-! ## notice -/

@[simp] theorem Ev.notice_toBlocks (e : Ev) (k : Notice) (d1 d2 : Word) : (e.notice k d1 d2).toBlocks = e.toBlocks := rfl

@[simp] theorem Ev.notice_effects (e : Ev) (k : Notice) (d1 d2 : Word) :
    (e.notice k d1 d2).effects = e.effects ++ [.notice k e.tick d1 d2] := rfl

@[simp] theorem Ev.notice_asks (e : Ev) (k : Notice) (d1 d2 : Word) : (e.notice k d1 d2).asks = e.asks := rfl

/-! ## offer -/

@[simp] theorem Ev.offer_toBlocks (e : Ev) (port : Nat) (t : Telegram) : (e.offer port t).toBlocks = e.toBlocks := rfl

@[simp] theorem Ev.offer_effects (e : Ev) (port : Nat) (t : Telegram) :
    (e.offer port t).effects = e.effects ++ [.offer port e.tick t] := rfl

@[simp] theorem Ev.offer_asks (e : Ev) (port : Nat) (t : Telegram) : (e.offer port t).asks = e.asks := rfl

/-! ## publishNow -/

@[simp] theorem Ev.publishNow_toBlocks (e : Ev) (p : PageId) : (e.publishNow p).toBlocks = e.toBlocks := rfl

@[simp] theorem Ev.publishNow_effects (e : Ev) (p : PageId) :
    (e.publishNow p).effects = e.effects ++ [.publish p (pageBody p e.toBlocks)] := rfl

@[simp] theorem Ev.publishNow_asks (e : Ev) (p : PageId) : (e.publishNow p).asks = e.asks := rfl

/-! ## setPort -/

/-- A port record after setPort. -/
@[simp] theorem Ev.setPort_port (e : Ev) (p q : Port) (lp : LinkPort) :
    (e.setPort p lp).port q = if q = p then lp else e.port q := by
  cases p <;> cases q <;> rfl

/-- The blocks after setPort. -/
theorem Ev.setPort_p1 (e : Ev) (lp : LinkPort) : e.setPort .p1 lp = { e with port1 := lp } := rfl

/-- The blocks after setPort. -/
theorem Ev.setPort_p2 (e : Ev) (lp : LinkPort) : e.setPort .p2 lp = { e with port2 := lp } := rfl

@[simp] theorem Ev.setPort_tick (e : Ev) (p : Port) (lp : LinkPort) : (e.setPort p lp).tick = e.tick := by
  cases p <;> rfl

@[simp] theorem Ev.setPort_profile (e : Ev) (p : Port) (lp : LinkPort) : (e.setPort p lp).profile = e.profile := by
  cases p <;> rfl

@[simp] theorem Ev.setPort_relay (e : Ev) (p : Port) (lp : LinkPort) : (e.setPort p lp).relay = e.relay := by
  cases p <;> rfl

@[simp] theorem Ev.setPort_consist (e : Ev) (p : Port) (lp : LinkPort) : (e.setPort p lp).consist = e.consist := by
  cases p <;> rfl

@[simp] theorem Ev.setPort_motion (e : Ev) (p : Port) (lp : LinkPort) : (e.setPort p lp).motion = e.motion := by
  cases p <;> rfl

@[simp] theorem Ev.setPort_doors (e : Ev) (p : Port) (lp : LinkPort) : (e.setPort p lp).doors = e.doors := by
  cases p <;> rfl

@[simp] theorem Ev.setPort_summary (e : Ev) (p : Port) (lp : LinkPort) : (e.setPort p lp).summary = e.summary := by
  cases p <;> rfl

@[simp] theorem Ev.setPort_converter (e : Ev) (p : Port) (lp : LinkPort) : (e.setPort p lp).converter = e.converter := by
  cases p <;> rfl

@[simp] theorem Ev.setPort_demand (e : Ev) (p : Port) (lp : LinkPort) : (e.setPort p lp).demand = e.demand := by
  cases p <;> rfl

@[simp] theorem Ev.setPort_monitor (e : Ev) (p : Port) (lp : LinkPort) : (e.setPort p lp).monitor = e.monitor := by
  cases p <;> rfl

@[simp] theorem Ev.setPort_alloc (e : Ev) (p : Port) (lp : LinkPort) : (e.setPort p lp).alloc = e.alloc := by
  cases p <;> rfl

@[simp] theorem Ev.setPort_heater (e : Ev) (p : Port) (lp : LinkPort) : (e.setPort p lp).heater = e.heater := by
  cases p <;> rfl

@[simp] theorem Ev.setPort_origCount (e : Ev) (p : Port) (lp : LinkPort) : (e.setPort p lp).origCount = e.origCount := by
  cases p <;> rfl

@[simp] theorem Ev.setPort_effects (e : Ev) (p : Port) (lp : LinkPort) : (e.setPort p lp).effects = e.effects := by
  cases p <;> rfl

@[simp] theorem Ev.setPort_asks (e : Ev) (p : Port) (lp : LinkPort) : (e.setPort p lp).asks = e.asks := by
  cases p <;> rfl

/-! ## start and complete -/

@[simp] theorem Ev.start_toBlocks (b : Blocks) : (Ev.start b).toBlocks = b := rfl

@[simp] theorem Ev.start_effects (b : Blocks) : (Ev.start b).effects = [] := rfl

@[simp] theorem Ev.start_asks (b : Blocks) : (Ev.start b).asks = [] := rfl

/-- Completing a slot changes no block. -/
@[simp] theorem Ev.complete_toBlocks (e : Ev) (n : Option (Fin 16)) (d1 d2 d3 : Word) :
    (e.complete n d1 d2 d3).toBlocks = e.toBlocks := by
  cases n <;> rfl

@[simp] theorem Ev.complete_asks (e : Ev) (n : Option (Fin 16)) (d1 d2 d3 : Word) :
    (e.complete n d1 d2 d3).asks = e.asks := by
  cases n <;> rfl

/-! ## finish -/

@[simp] theorem State.finish_blk (s : State) (e : Ev) : (s.finish e).blk = e.toBlocks := rfl

@[simp] theorem State.finish_ifc (s : State) (e : Ev) :
    (s.finish e).ifc = s.ifc.applyAll s.host e.allEffects := rfl

@[simp] theorem State.finish_host (s : State) (e : Ev) : (s.finish e).host = s.host := rfl

@[simp] theorem State.finish_pending (s : State) (e : Ev) : (s.finish e).pending = s.pending := rfl

end Sys2Proof.Machine
end

