-- ==== Sys2Proof/Laws/Relay.lean ====
section
/-! SUPPORT. What the relay block's operations can change: queues, transmitters, drop counts, waiting sends, and the effects asked for. -/

namespace Sys2Proof.Machine

/-- A port record after an operation of the relay block: the link record of R6 but for the transmitter and
the drop counts stands. -/
def QueueOnly (lp lp' : LinkPort) : Prop :=
  lp' = { lp with tx := lp'.tx, drops := lp'.drops, queues := lp'.queues, defPower := lp'.defPower
                  defService := lp'.defService, turn := lp'.turn, quantumAdded := lp'.quantumAdded }

/-- An event after operations of the relay block: every other block stands, and effects are only
appended. -/
structure RelayOnly (e e' : Ev) : Prop where
  blocks : e'.toBlocks = { e.toBlocks with port1 := e'.port1, port2 := e'.port2, relay := e'.relay
                                           origCount := e'.origCount }
  asks : e'.asks = e.asks
  port1 : QueueOnly e.port1 e'.port1
  port2 : QueueOnly e.port2 e'.port2
  effects : ∃ xs, e'.effects = e.effects ++ xs

theorem QueueOnly.refl (lp : LinkPort) : QueueOnly lp lp := rfl

theorem QueueOnly.trans {a b c : LinkPort} (h1 : QueueOnly a b) (h2 : QueueOnly b c) : QueueOnly a c := by
  unfold QueueOnly at *
  rw [h2, h1]

theorem RelayOnly.refl (e : Ev) : RelayOnly e e :=
  ⟨rfl, rfl, .refl _, .refl _, ⟨[], by simp⟩⟩

theorem RelayOnly.trans {a b c : Ev} (h1 : RelayOnly a b) (h2 : RelayOnly b c) : RelayOnly a c := by
  refine ⟨?_, h2.asks.trans h1.asks, h1.port1.trans h2.port1, h1.port2.trans h2.port2, ?_⟩
  · rw [h2.blocks, h1.blocks]
  · obtain ⟨xs, hx⟩ := h1.effects
    obtain ⟨ys, hy⟩ := h2.effects
    exact ⟨xs ++ ys, by rw [hy, hx, List.append_assoc]⟩

/-! ## Fields that stand -/

section
variable {e e' : Ev} (h : RelayOnly e e')
include h

theorem RelayOnly.tick : e'.tick = e.tick := by rw [h.blocks]
theorem RelayOnly.profile : e'.profile = e.profile := by rw [h.blocks]
theorem RelayOnly.consist : e'.consist = e.consist := by rw [h.blocks]
theorem RelayOnly.motion : e'.motion = e.motion := by rw [h.blocks]
theorem RelayOnly.doors : e'.doors = e.doors := by rw [h.blocks]
theorem RelayOnly.summary : e'.summary = e.summary := by rw [h.blocks]
theorem RelayOnly.converter : e'.converter = e.converter := by rw [h.blocks]
theorem RelayOnly.demand : e'.demand = e.demand := by rw [h.blocks]
theorem RelayOnly.monitor : e'.monitor = e.monitor := by rw [h.blocks]
theorem RelayOnly.alloc : e'.alloc = e.alloc := by rw [h.blocks]
theorem RelayOnly.heater : e'.heater = e.heater := by rw [h.blocks]

/-- The link state of each port stands. -/
theorem RelayOnly.state (p : Port) : (e'.port p).state = (e.port p).state := by
  cases p
  · exact (congrArg LinkPort.state h.port1).trans rfl
  · exact (congrArg LinkPort.state h.port2).trans rfl

theorem RelayOnly.isUp (p : Port) : e'.isUp p = e.isUp p := by
  simp only [Blocks.isUp, h.state p]

end

/-! ## Steps that keep to it -/

/-- Replacing a port record by one with only queue items changed. -/
theorem RelayOnly.setPort (e : Ev) (p : Port) (lp : LinkPort) (h : QueueOnly (e.port p) lp) :
    RelayOnly e (e.setPort p lp) := by
  cases p
  · exact ⟨rfl, rfl, h, .refl _, ⟨[], by simp [Ev.setPort]⟩⟩
  · exact ⟨rfl, rfl, .refl _, h, ⟨[], by simp [Ev.setPort]⟩⟩

theorem RelayOnly.emit (e : Ev) (x : Effect) : RelayOnly e (e.emit x) :=
  ⟨rfl, rfl, .refl _, .refl _, ⟨[x], rfl⟩⟩

theorem RelayOnly.notice (e : Ev) (k : Notice) (d1 d2 : Word) : RelayOnly e (e.notice k d1 d2) :=
  .emit e _

theorem RelayOnly.offer (e : Ev) (p : Nat) (t : Telegram) : RelayOnly e (e.offer p t) := .emit e _

theorem RelayOnly.complete (e : Ev) (n : Option (Fin 16)) (d1 d2 d3 : Word) :
    RelayOnly e (e.complete n d1 d2 d3) := by
  cases n
  · exact .refl e
  · exact .emit e _

theorem RelayOnly.setRelay (e : Ev) (r : Relay) : RelayOnly e (e.setRelay r) :=
  ⟨rfl, rfl, .refl _, .refl _, ⟨[], by simp⟩⟩

/-! ## The operations -/

theorem Ev.drop_frame (e : Ev) (p : Port) (c : Cls) : RelayOnly e (e.drop p c) :=
  .setPort e p ((e.port p).addDrop c) rfl

theorem Ev.settleCopy_frame (e : Ev) (o : Option Nat) (b : Bool) : RelayOnly e (e.settleCopy o b) := by
  unfold Ev.settleCopy
  split
  · exact .refl e
  · split
    · exact .refl e
    · dsimp only
      split
      · exact (RelayOnly.setRelay e _).trans (.complete _ _ _ _ _)
      · exact .setRelay e _

theorem Ev.loseCopy_frame (e : Ev) (p : Port) (q : QTel) : RelayOnly e (e.loseCopy p q) := by
  unfold Ev.loseCopy
  dsimp only
  split
  · exact ((Ev.drop_frame e p _).trans (.notice _ _ _ _)).trans (Ev.settleCopy_frame _ _ _)
  · exact (Ev.drop_frame e p _).trans (Ev.settleCopy_frame _ _ _)

theorem Ev.loseUnsent_frame (e : Ev) (p : Port) (c : Cls) (t : Telegram) :
    RelayOnly e (e.loseUnsent p c t) := by
  unfold Ev.loseUnsent
  dsimp only
  split
  · exact (Ev.drop_frame e p c).trans (.notice _ _ _ _)
  · exact Ev.drop_frame e p c

theorem Ev.refuseCopy_frame (e : Ev) (p : Port) (c : Cls) (t : Telegram) :
    RelayOnly e (e.refuseCopy p c t) := by
  unfold Ev.refuseCopy
  dsimp only
  split
  · exact (Ev.drop_frame e p c).trans (.notice _ _ _ _)
  · exact Ev.drop_frame e p c

theorem Ev.loseAll_frame (p : Port) (qs : List QTel) (e : Ev) : RelayOnly e (e.loseAll p qs) := by
  induction qs generalizing e with
  | nil => exact .refl e
  | cons q qs ih => exact (Ev.loseCopy_frame e p q).trans (ih _)

theorem Ev.disposeTraffic_frame (e : Ev) (p : Port) : RelayOnly e (e.disposeTraffic p) :=
  (RelayOnly.setPort e p (e.port p).emptied rfl).trans (Ev.loseAll_frame p _ _)

theorem LinkPort.takeHead_queueOnly (lp : LinkPort) (q : QTel) (rest : List QTel) :
    QueueOnly lp (lp.takeHead q rest) := by
  cases rest <;> cases h : lp.turn <;>
    simp [LinkPort.takeHead, LinkPort.setQueue, LinkPort.setDeficit, LinkPort.passTurn, QueueOnly, h]

theorem LinkPort.addQuantum_queueOnly (f : Profile) (lp : LinkPort) : QueueOnly lp (lp.addQuantum f) := by
  unfold LinkPort.addQuantum
  split
  · exact .refl lp
  · cases h : lp.turn <;> simp [LinkPort.setDeficit, QueueOnly]

theorem LinkPort.roundRobin_queueOnly (f : Profile) (n : Nat) (lp : LinkPort) :
    QueueOnly lp (lp.roundRobin f n) := by
  induction n generalizing lp with
  | zero => exact .refl lp
  | succ n ih =>
    unfold LinkPort.roundRobin
    split
    · exact QueueOnly.trans (b := lp.passTurn) rfl (ih _)
    · dsimp only
      split
      · exact (LinkPort.addQuantum_queueOnly f lp).trans (LinkPort.takeHead_queueOnly _ _ _)
      · exact (LinkPort.addQuantum_queueOnly f lp).trans
          (QueueOnly.trans (b := (lp.addQuantum f).passTurn) rfl (ih _))

theorem LinkPort.schedule_queueOnly (f : Profile) (lp : LinkPort) : QueueOnly lp (lp.schedule f) := by
  unfold LinkPort.schedule
  split
  · rfl
  · split
    · rfl
    · split
      · exact .refl lp
      · exact LinkPort.roundRobin_queueOnly f _ lp

theorem Ev.kick_frame (e : Ev) (p : Port) : RelayOnly e (e.kick p) := by
  unfold Ev.kick
  split
  · exact .setPort e p _ (LinkPort.schedule_queueOnly _ _)
  · exact .refl e

theorem Ev.enqueue_frame (e : Ev) (p : Port) (q : QTel) : RelayOnly e (e.enqueue p q) :=
  (RelayOnly.setPort e p ((e.port p).setQueue q.cls ((e.port p).queue q.cls ++ [q])) rfl).trans (Ev.kick_frame _ p)

theorem Ev.loseCopies_frame (c : Cls) (xs : List Copy) (e : Ev) : RelayOnly e (e.loseCopies c xs) := by
  induction xs generalizing e with
  | nil => exact .refl e
  | cons x xs ih => exact (Ev.loseUnsent_frame e _ c _).trans (ih _)

theorem Ev.refuseCopies_frame (c : Cls) (xs : List Copy) (e : Ev) : RelayOnly e (e.refuseCopies c xs) := by
  induction xs generalizing e with
  | nil => exact .refl e
  | cons x xs ih => exact (Ev.refuseCopy_frame e _ c _).trans (ih _)

theorem Ev.enqueueCopies_frame (c : Cls) (o : Option Nat) (xs : List Copy) (e : Ev) :
    RelayOnly e (e.enqueueCopies c o xs) := by
  induction xs generalizing e with
  | nil => exact .refl e
  | cons x xs ih => exact (Ev.enqueue_frame e _ _).trans (ih _)

theorem Ev.placeCopies_frame (e : Ev) (c : Cls) (o : Option Nat) (xs : List Copy) :
    RelayOnly e (e.placeCopies c o xs).1 := by
  unfold Ev.placeCopies
  dsimp only
  split
  · exact Ev.loseCopies_frame c _ e
  · split
    · exact (Ev.loseCopies_frame c _ e).trans (Ev.enqueueCopies_frame c o _ _)
    · exact (Ev.loseCopies_frame c _ e).trans (Ev.refuseCopies_frame c _ _)

/-- The counter of originations is the model's own. -/
theorem RelayOnly.count (e : Ev) (n : Nat) : RelayOnly e { e with origCount := n } :=
  ⟨rfl, rfl, .refl _, .refl _, ⟨[], by simp⟩⟩

theorem Ev.originate_frame (e : Ev) (o : Outgoing) (origin : Option Nat) :
    RelayOnly e (e.originate o origin).1 := by
  unfold Ev.originate
  split
  · exact .refl e
  · exact (RelayOnly.count e _).trans (Ev.placeCopies_frame _ _ _ _)

theorem Ev.offerLocal_frame (e : Ev) (t : Option Telegram) : RelayOnly e (e.offerLocal t) := by
  cases t
  · exact .refl e
  · exact .offer e _ _

theorem Ev.sendNeighbour_frame (e : Ev) (p : Port) (o : Outgoing) (origin : Option Nat) :
    RelayOnly e (e.sendNeighbour p o origin).1 :=
  (RelayOnly.count e _).trans (Ev.placeCopies_frame _ _ _ _)

theorem Ev.sendFamily_frame (e : Ev) (p : Port) (k : Kind) (payload : List Byte) :
    RelayOnly e (e.sendFamily p k payload) := Ev.sendNeighbour_frame e p _ _

theorem Ev.forward_frame (e : Ev) (p : Port) (c : Cls) (t : Telegram) : RelayOnly e (e.forward p c t) := by
  unfold Ev.forward
  split
  · exact Ev.drop_frame e p c
  · exact Ev.placeCopies_frame _ _ _ _

end Sys2Proof.Machine
end

