-- ==== Sys2Proof/Laws/Frame.lean ====
section
/-! SUPPORT. Frames of the blocks: what the events of the train leave unchanged in the car (profile, motion, sides, converter, tick) and in the consist record. -/

namespace Sys2Proof.Machine

/-- The items of the car that neither the train nor the lines change (R107 for the sides). -/
structure BodyKept (e e' : Ev) : Prop where
  tick : e'.tick = e.tick
  profile : e'.profile = e.profile
  motion : e'.motion = e.motion
  left : e'.doors.left = e.doors.left
  right : e'.doors.right = e.doors.right
  converter : e'.converter = e.converter

/-- An operation that keeps the link records of both ports as well. -/
structure CarKept (e e' : Ev) : Prop extends BodyKept e e' where
  port1 : QueueOnly e.port1 e'.port1
  port2 : QueueOnly e.port2 e'.port2

/-- An operation that keeps the consist record as well. -/
structure TrainKept (e e' : Ev) : Prop extends CarKept e e' where
  consist : e'.consist = e.consist

/-- An operation of a port that keeps the consist record. -/
structure PortKept (e e' : Ev) : Prop extends BodyKept e e' where
  consist : e'.consist = e.consist

theorem BodyKept.refl (e : Ev) : BodyKept e e := ⟨rfl, rfl, rfl, rfl, rfl, rfl⟩

theorem BodyKept.trans {a b c : Ev} (h1 : BodyKept a b) (h2 : BodyKept b c) : BodyKept a c :=
  ⟨h2.tick.trans h1.tick, h2.profile.trans h1.profile, h2.motion.trans h1.motion, h2.left.trans h1.left,
   h2.right.trans h1.right, h2.converter.trans h1.converter⟩

theorem CarKept.refl (e : Ev) : CarKept e e := ⟨.refl e, .refl _, .refl _⟩

theorem CarKept.trans {a b c : Ev} (h1 : CarKept a b) (h2 : CarKept b c) : CarKept a c :=
  ⟨h1.toBodyKept.trans h2.toBodyKept, h1.port1.trans h2.port1, h1.port2.trans h2.port2⟩

theorem TrainKept.refl (e : Ev) : TrainKept e e := ⟨.refl e, rfl⟩

theorem TrainKept.trans {a b c : Ev} (h1 : TrainKept a b) (h2 : TrainKept b c) : TrainKept a c :=
  ⟨h1.toCarKept.trans h2.toCarKept, h2.consist.trans h1.consist⟩

theorem PortKept.refl (e : Ev) : PortKept e e := ⟨.refl e, rfl⟩

theorem PortKept.trans {a b c : Ev} (h1 : PortKept a b) (h2 : PortKept b c) : PortKept a c :=
  ⟨h1.toBodyKept.trans h2.toBodyKept, h2.consist.trans h1.consist⟩

theorem TrainKept.toPort {e e' : Ev} (h : TrainKept e e') : PortKept e e' := ⟨h.toBodyKept, h.consist⟩

/-- The link state of each port stands. -/
theorem CarKept.state {e e' : Ev} (h : CarKept e e') (p : Port) : (e'.port p).state = (e.port p).state := by
  cases p
  · exact (congrArg LinkPort.state h.port1).trans rfl
  · exact (congrArg LinkPort.state h.port2).trans rfl

theorem CarKept.isUp {e e' : Ev} (h : CarKept e e') (p : Port) : e'.isUp p = e.isUp p := by
  simp only [Blocks.isUp, h.state p]

/-- Operations of the relay block keep the car and the consist record. -/
theorem RelayOnly.kept {e e' : Ev} (h : RelayOnly e e') : TrainKept e e' :=
  ⟨⟨⟨h.tick, h.profile, h.motion, congrArg Doors.left h.doors, congrArg Doors.right h.doors, h.converter⟩,
    h.port1, h.port2⟩, h.consist⟩

/-! ## Single updates -/

theorem TrainKept.ask (e : Ev) (p : PageId) : TrainKept e (e.ask p) := ⟨⟨⟨rfl, rfl, rfl, rfl, rfl, rfl⟩, rfl, rfl⟩, rfl⟩
theorem TrainKept.publishNow (e : Ev) (p : PageId) : TrainKept e (e.publishNow p) :=
  ⟨⟨⟨rfl, rfl, rfl, rfl, rfl, rfl⟩, rfl, rfl⟩, rfl⟩
theorem TrainKept.setSummary (e : Ev) (j : Judgement) : TrainKept e (e.setSummary j) :=
  ⟨⟨⟨rfl, rfl, rfl, rfl, rfl, rfl⟩, rfl, rfl⟩, rfl⟩
theorem TrainKept.setAlloc (e : Ev) (a : Alloc) : TrainKept e (e.setAlloc a) :=
  ⟨⟨⟨rfl, rfl, rfl, rfl, rfl, rfl⟩, rfl, rfl⟩, rfl⟩
theorem TrainKept.setHeater (e : Ev) (h : Heater) : TrainKept e (e.setHeater h) :=
  ⟨⟨⟨rfl, rfl, rfl, rfl, rfl, rfl⟩, rfl, rfl⟩, rfl⟩
theorem TrainKept.setMonitor (e : Ev) (m : Monitor) : TrainKept e (e.setMonitor m) :=
  ⟨⟨⟨rfl, rfl, rfl, rfl, rfl, rfl⟩, rfl, rfl⟩, rfl⟩
theorem TrainKept.setDemand (e : Ev) (d : Demand) : TrainKept e (e.setDemand d) :=
  ⟨⟨⟨rfl, rfl, rfl, rfl, rfl, rfl⟩, rfl, rfl⟩, rfl⟩
theorem TrainKept.notice (e : Ev) (k : Notice) (d1 d2 : Word) : TrainKept e (e.notice k d1 d2) :=
  (RelayOnly.notice e k d1 d2).kept
theorem TrainKept.complete (e : Ev) (n : Option (Fin 16)) (d1 d2 d3 : Word) :
    TrainKept e (e.complete n d1 d2 d3) := (RelayOnly.complete e n d1 d2 d3).kept
theorem TrainKept.latch (e : Ev) (b : Bool) : TrainKept e (e.setDoors { e.doors with latch := b }) :=
  ⟨⟨⟨rfl, rfl, rfl, rfl, rfl, rfl⟩, rfl, rfl⟩, rfl⟩
theorem CarKept.setConsist (e : Ev) (c : Consist) : CarKept e (e.setConsist c) :=
  ⟨⟨rfl, rfl, rfl, rfl, rfl, rfl⟩, rfl, rfl⟩
theorem PortKept.setPort (e : Ev) (p : Port) (lp : LinkPort) : PortKept e (e.setPort p lp) := by
  cases p <;> exact ⟨⟨rfl, rfl, rfl, rfl, rfl, rfl⟩, rfl⟩
theorem BodyKept.setPort (e : Ev) (p : Port) (lp : LinkPort) : BodyKept e (e.setPort p lp) :=
  (PortKept.setPort e p lp).toBodyKept

/-! ## Doors settled, refusal latch -/

theorem Ev.doorsSettled_kept (e : Ev) (b : Blocks) : TrainKept e (e.doorsSettled b) := by
  unfold Ev.doorsSettled
  dsimp only
  split <;> split
  · exact .refl e
  · exact .setDemand e _
  · exact .ask e _
  · exact (TrainKept.ask e _).trans (.setDemand _ _)

theorem Ev.clearRefusal_kept (e : Ev) : TrainKept e e.clearRefusal :=
  (TrainKept.latch e false).trans (Ev.doorsSettled_kept _ _)

/-! ## Heater output, summary, allocation, monitor -/

theorem Ev.takeGrant_kept (e : Ev) (b : List Byte) : TrainKept e (e.takeGrant b) := by
  unfold Ev.takeGrant
  split
  · split
    · exact (TrainKept.setHeater e _).trans (.ask _ _)
    · exact .setHeater e _
  · exact .setHeater e _

theorem Ev.dropGrant_kept (e : Ev) : TrainKept e e.dropGrant := (TrainKept.setHeater e _).trans (.ask _ _)

theorem Ev.judge_kept (e : Ev) (t : Total) : TrainKept e (e.judge t) :=
  ((TrainKept.setSummary e _).trans (.latch _ _)).trans (.publishNow _ _)

theorem Ev.resetJudgement_kept (e : Ev) : TrainKept e e.resetJudgement :=
  (TrainKept.setSummary e _).trans (.publishNow _ _)

theorem Ev.originate_kept (e : Ev) (o : Outgoing) (i : Option Nat) : TrainKept e (e.originate o i).1 :=
  (Ev.originate_frame e o i).kept

theorem Ev.offerLocal_kept (e : Ev) (t : Option Telegram) : TrainKept e (e.offerLocal t) :=
  (Ev.offerLocal_frame e t).kept

theorem Ev.sendTotal_kept (e : Ev) (t : Total) : TrainKept e (e.sendTotal t) := by
  unfold Ev.sendTotal
  dsimp only
  split
  · exact ((Ev.originate_kept e _ _).trans (Ev.judge_kept _ _)).trans (Ev.offerLocal_kept _ _)
  · split
    · exact (Ev.originate_kept e _ _).trans (Ev.clearRefusal_kept _)
    · exact Ev.originate_kept e _ _

theorem Ev.summaryBeacon_kept (e : Ev) (n : Word) : TrainKept e (e.summaryBeacon n) := by
  unfold Ev.summaryBeacon
  split
  · exact Ev.sendTotal_kept e _
  · exact .refl e

theorem Ev.takeSummary_kept (e : Ev) (t : Telegram) : TrainKept e (e.takeSummary t) := by
  unfold Ev.takeSummary Ev.judgeArrival
  split
  · split
    · exact .setSummary e _
    · split
      · exact Ev.judge_kept e _
      · exact .setSummary e _
  · split
    · exact .refl e
    · exact Ev.sendTotal_kept e _

theorem Ev.ownDemand_kept (e : Ev) (n : Word) : TrainKept e (e.ownDemand n) := by
  unfold Ev.ownDemand
  split
  · exact .setAlloc e _
  · exact .refl e

theorem Ev.demandBeacon_kept (e : Ev) (n : Word) : TrainKept e (e.demandBeacon n) := by
  unfold Ev.demandBeacon
  split
  · exact Ev.originate_kept e _ _
  · exact .refl e

theorem Ev.takeDemand_kept (e : Ev) (t : Telegram) : TrainKept e (e.takeDemand t) := by
  unfold Ev.takeDemand
  split
  · split <;> exact .setAlloc e _
  · exact .setAlloc e _

theorem Ev.takeLocalGrant_kept (e : Ev) (t : Option Telegram) : TrainKept e (e.takeLocalGrant t) := by
  cases t with
  | none => exact .refl e
  | some x => exact (Ev.takeGrant_kept e x.payload).trans (Ev.offerLocal_kept _ (some x))

theorem Ev.allocBeacon_kept (e : Ev) (n : Word) : TrainKept e (e.allocBeacon n) := by
  unfold Ev.allocBeacon
  split
  · unfold Ev.allocPeriod
    dsimp only
    split
    · exact ((((((TrainKept.setAlloc e _).trans (.setAlloc _ _)).trans (Ev.originate_kept _ _ _)).trans
        (.setAlloc _ _)).trans (Ev.takeLocalGrant_kept _ _)).trans (.ask _ _))
    · exact ((TrainKept.setAlloc e _).trans (.setAlloc _ _)).trans (.ask _ _)
  · exact .refl e

theorem Ev.monitorBeacon_kept (e : Ev) : TrainKept e e.monitorBeacon := by
  unfold Ev.monitorBeacon
  split
  · exact .setMonitor e _
  · exact .refl e

/-! ## Consist block -/

theorem Ev.sendFamily_kept (e : Ev) (p : Port) (k : Kind) (b : List Byte) : TrainKept e (e.sendFamily p k b) :=
  (Ev.sendFamily_frame e p k b).kept

theorem Ev.noteInstalled_kept (e : Ev) : TrainKept e e.noteInstalled := by
  unfold Ev.noteInstalled
  split
  · exact .notice e _ _ _
  · exact .refl e

theorem Ev.noteLost_kept (e : Ev) (w : LossReason) (t : LiveTable) : TrainKept e (e.noteLost w t) :=
  .notice e _ _ _

theorem Ev.installLead_car (e : Ev) (cab : Port) (xs : List SweepEntry) : CarKept e (e.installLead cab xs) := by
  unfold Ev.installLead
  exact (((CarKept.setConsist e _).trans (Ev.dropGrant_kept _).toCarKept).trans
    (TrainKept.setAlloc _ _).toCarKept).trans (Ev.resetJudgement_kept _).toCarKept

theorem Ev.endCarry_car (e : Ev) : CarKept e e.endCarry := .setConsist e _

theorem Ev.loseTable_car (e : Ev) (w : LossReason) (t : LiveTable) : CarKept e (e.loseTable w t) := by
  unfold Ev.loseTable
  exact (((CarKept.setConsist e _).trans (Ev.dropGrant_kept _).toCarKept).trans
    (TrainKept.publishNow _ _).toCarKept).trans (Ev.noteLost_kept _ _ _).toCarKept

theorem Ev.leaveLead_car (e : Ev) : CarKept e e.leaveLead := by
  unfold Ev.leaveLead
  exact ((((CarKept.setConsist e _).trans (Ev.dropGrant_kept _).toCarKept).trans
    (TrainKept.setAlloc _ _).toCarKept).trans (Ev.resetJudgement_kept _).toCarKept).trans
    (TrainKept.publishNow _ _).toCarKept

theorem Ev.ownBeacon_kept (e : Ev) (n : Word) : TrainKept e (e.ownBeacon n) :=
  (((Ev.summaryBeacon_kept e n).trans (Ev.ownDemand_kept _ n)).trans (Ev.allocBeacon_kept _ n)).trans
    (Ev.monitorBeacon_kept _)

theorem Ev.sendBeacon_car (e : Ev) : CarKept e e.sendBeacon := by
  unfold Ev.sendBeacon
  exact (((CarKept.setConsist e _).trans (Ev.originate_kept _ _ _).toCarKept).trans
    (Ev.ownBeacon_kept _ _).toCarKept).trans (Ev.offerLocal_kept _ _).toCarKept

/-- The consist record after a beacon: its number, flag and nothing else. -/
theorem Ev.sendBeacon_consist (e : Ev) : e.sendBeacon.consist =
    { e.consist with beaconNo := nextBeacon e.consist.beaconNo
                     lastStationary := decide (e.motion.state = .stopped) } := by
  unfold Ev.sendBeacon
  exact (Ev.offerLocal_kept _ _).consist.trans ((Ev.ownBeacon_kept _ _).consist.trans
    (Ev.originate_kept _ _ _).consist)

theorem Ev.startBeacons_car (e : Ev) : CarKept e e.startBeacons :=
  (CarKept.setConsist e _).trans (Ev.sendBeacon_car _)

theorem Ev.endSweep_car (e : Ev) (o : SweepOutcome) : CarKept e (e.endSweep o) :=
  (CarKept.setConsist e _).trans (TrainKept.complete _ _ _ _ _).toCarKept

theorem Ev.formAlone_car (e : Ev) (cab : Port) : CarKept e (e.formAlone cab) := by
  unfold Ev.formAlone
  exact ((((Ev.installLead_car e _ _).trans (Ev.endSweep_car _ _)).trans
    (Ev.noteInstalled_kept _).toCarKept).trans (TrainKept.publishNow _ _).toCarKept).trans
    (Ev.startBeacons_car _)

theorem Ev.beginAttempt_car (e : Ev) (cab : Port) (k : Nat) : CarKept e (e.beginAttempt cab k) := by
  unfold Ev.beginAttempt
  dsimp only
  split
  · exact ((CarKept.setConsist e _).trans (CarKept.setConsist _ _)).trans
      (Ev.sendFamily_kept _ _ _ _).toCarKept
  · exact (CarKept.setConsist e _).trans (Ev.formAlone_car _ _)

theorem Ev.failSweep_car (e : Ev) (cab : Port) (w : FailReason) (pos : Nat) :
    CarKept e (e.failSweep cab w pos) := by
  unfold Ev.failSweep
  exact ((((((Ev.sendFamily_kept e _ _ _).toCarKept.trans (Ev.installLead_car _ _ _)).trans
    (Ev.endSweep_car _ _)).trans (TrainKept.notice _ _ _ _).toCarKept).trans
    (Ev.noteInstalled_kept _).toCarKept).trans (TrainKept.publishNow _ _).toCarKept).trans
    (Ev.startBeacons_car _)

theorem Ev.retryOrFail_car (e : Ev) (cab : Port) (k : Nat) (w : FailReason) (pos : Nat) :
    CarKept e (e.retryOrFail cab k w pos) := by
  unfold Ev.retryOrFail
  split
  · exact Ev.beginAttempt_car e cab _
  · exact Ev.failSweep_car e cab w pos

theorem Ev.askResweep_car (e : Ev) : CarKept e e.askResweep := by
  unfold Ev.askResweep
  split
  · exact .setConsist e _
  all_goals exact .refl e

theorem Ev.join_car (e : Ev) (w : JoinReason) : CarKept e (e.join w) := by
  unfold Ev.join
  split
  · exact .refl e
  · exact Ev.askResweep_car e
  · exact (Ev.originate_kept e _ _).toCarKept

theorem Ev.sendBreak_kept (e : Ev) : TrainKept e e.sendBreak := Ev.originate_kept e _ _

theorem Ev.consistPortLost_car (e : Ev) (p : Port) : CarKept e (e.consistPortLost p) := by
  have h1 : CarKept e (e.carryPortLost p) := by
    unfold Ev.carryPortLost
    split
    · exact .refl e
    · split
      · exact Ev.endCarry_car e
      · split
        · exact .refl e
        · exact (Ev.sendFamily_kept e _ _ _).toCarKept.trans (Ev.endCarry_car _)
  have h2 : ∀ e : Ev, CarKept e (e.tablePortLost p) := by
    intro e
    unfold Ev.tablePortLost
    split
    · split
      · exact (Ev.sendFamily_kept e _ _ _).toCarKept.trans (Ev.loseTable_car _ _ _)
      · split
        · exact (Ev.sendBreak_kept e).toCarKept
        · exact .refl e
    · split
      · exact .refl e
      · split
        · exact Ev.retryOrFail_car e _ _ _ _
        all_goals
          split
          · exact Ev.askResweep_car e
          · exact .refl e
    all_goals exact .refl e
  exact h1.trans (h2 _)

theorem Ev.consistPortUp_car (e : Ev) (p : Port) : CarKept e (e.consistPortUp p) := by
  unfold Ev.consistPortUp
  split
  · exact .refl e
  · split
    · exact Ev.join_car e _
    · split
      · exact (TrainKept.notice e _ _ _).toCarKept
      · exact .refl e

/-! ## Events of the consist block -/

theorem Ev.stopSweep_car (e : Ev) (w : FailReason) : CarKept e (e.stopSweep w) := by
  unfold Ev.stopSweep
  split
  · exact Ev.endSweep_car e _
  all_goals exact .refl e

theorem Ev.setCab_car (e : Ev) (x : Byte) : CarKept e (e.setCab x).1 := by
  unfold Ev.setCab
  split
  · unfold Ev.deactivate
    split
    · exact (((Ev.sendFamily_kept e _ _ _).toCarKept.trans (Ev.stopSweep_car _ _)).trans
        (Ev.leaveLead_car _)).trans (Ev.noteLost_kept _ _ _).toCarKept
    · exact .refl e
  · split
    · unfold Ev.activateCab
      repeat' split
      all_goals first
        | exact .refl e
        | skip
      unfold Ev.activate
      dsimp only
      split
      · exact ((((CarKept.setConsist e _).trans (Ev.installLead_car _ _ _)).trans
          (Ev.noteInstalled_kept _).toCarKept).trans (TrainKept.publishNow _ _).toCarKept).trans
          (Ev.beginAttempt_car _ _ _)
      · exact ((((CarKept.setConsist e _).trans (Ev.installLead_car _ _ _)).trans
          (Ev.noteInstalled_kept _).toCarKept).trans (TrainKept.publishNow _ _).toCarKept).trans
          (Ev.startBeacons_car _)
    · exact .refl e

theorem Ev.startSweep_car (e : Ev) (n : Fin 16) : CarKept e (e.startSweep n).1 := by
  unfold Ev.startSweep
  split
  · split
    · exact .refl e
    all_goals exact (CarKept.setConsist e _).trans (Ev.beginAttempt_car _ _ _)
  · exact .refl e

theorem Ev.abandonSweep_car (e : Ev) (x : Ev × Word) (h : e.abandonSweep = some x) : CarKept e x.1 := by
  unfold Ev.abandonSweep at h
  split at h
  · cases h
    exact ((CarKept.setConsist e _).trans (TrainKept.publishNow _ _).toCarKept).trans (Ev.startBeacons_car _)
  all_goals cases h

theorem Ev.validateSweep_car (e : Ev) (p : Port) (b : SweepBody) : CarKept e (e.validateSweep p b) := by
  unfold Ev.validateSweep
  split
  · exact (Ev.sendFamily_kept e _ _ _).toCarKept
  · unfold Ev.takeUpSweep
    dsimp only
    split <;> exact (CarKept.setConsist e _).trans (Ev.sendFamily_kept _ _ _ _).toCarKept

theorem Ev.abandonLead_car (e : Ev) (y : Ident) : CarKept e (e.abandonLead y) := by
  unfold Ev.abandonLead
  split
  · exact ((Ev.stopSweep_car e _).trans (Ev.leaveLead_car _)).trans (TrainKept.notice _ _ _ _).toCarKept
  · exact Ev.loseTable_car e _ _
  all_goals exact Ev.endCarry_car e

theorem Ev.takeSweep_car (e : Ev) (p : Port) (b : SweepBody) : CarKept e (e.takeSweep p b) := by
  unfold Ev.takeSweep
  split
  · exact .refl e
  · exact Ev.validateSweep_car e p b
  · exact (Ev.abandonLead_car e _).trans (Ev.validateSweep_car _ p b)

theorem Ev.completeSweep_car (e : Ev) (cab : Port) (b : SweepBody) : CarKept e (e.completeSweep cab b) := by
  unfold Ev.completeSweep
  exact (((((Ev.installLead_car e _ _).trans (Ev.sendFamily_kept _ _ _ _).toCarKept).trans
    (Ev.endSweep_car _ _)).trans (TrainKept.publishNow _ _).toCarKept).trans
    (Ev.noteInstalled_kept _).toCarKept).trans (Ev.startBeacons_car _)

theorem Ev.takeReturn_car (e : Ev) (p : Port) (b : SweepBody) : CarKept e (e.takeReturn p b) := by
  unfold Ev.takeReturn
  split
  · unfold Ev.leadReturn
    split
    · split
      · split
        · exact Ev.completeSweep_car e _ _
        · exact Ev.failSweep_car e _ _ _
      · exact .refl e
    all_goals exact .refl e
  · unfold Ev.carryReturn
    split
    · split
      · split
        · exact (CarKept.setConsist e _).trans (Ev.sendFamily_kept _ _ _ _).toCarKept
        · exact (Ev.sendFamily_kept e _ _ _).toCarKept
      · exact (Ev.sendFamily_kept e _ _ _).toCarKept
    · exact .refl e
  · exact .refl e

theorem Ev.takeSweepFail_car (e : Ev) (p : Port) (b : FailBody) : CarKept e (e.takeSweepFail p b) := by
  unfold Ev.takeSweepFail
  split
  · unfold Ev.leadFail
    split
    · split
      · split
        · exact Ev.failSweep_car e _ _ _
        · exact Ev.failSweep_car e _ _ _
        · exact Ev.retryOrFail_car e _ _ _ _
        · exact .refl e
      · exact .refl e
    all_goals exact .refl e
  · split
    · exact (Ev.sendFamily_kept e _ _ _).toCarKept.trans (Ev.endCarry_car _)
    · exact .refl e
  · exact .refl e

theorem Ev.installFollower_car (e : Ev) (c : Carry) (xs : List SweepEntry) (b : ConfirmBody) :
    CarKept e (e.installFollower c xs b) := by
  have hc : ∀ (e : Ev) (t : LiveTable), CarKept e (e.installChecks t) := by
    intro e t
    unfold Ev.installChecks
    split
    · split
      · exact .refl e
      · exact (Ev.sendBreak_kept e).toCarKept
    · split
      · exact Ev.join_car e _
      · exact .refl e
  unfold Ev.installFollower
  dsimp only
  split
  · exact (((((CarKept.setConsist e _).trans (Ev.dropGrant_kept _).toCarKept).trans
      (Ev.sendFamily_kept _ _ _ _).toCarKept).trans (TrainKept.publishNow _ _).toCarKept).trans
      (Ev.noteInstalled_kept _).toCarKept).trans (hc _ _)
  · exact ((((CarKept.setConsist e _).trans (Ev.dropGrant_kept _).toCarKept).trans
      (TrainKept.publishNow _ _).toCarKept).trans (Ev.noteInstalled_kept _).toCarKept).trans (hc _ _)

theorem Ev.takeConfirm_car (e : Ev) (p : Port) (b : ConfirmBody) : CarKept e (e.takeConfirm p b) := by
  unfold Ev.takeConfirm
  split
  · split
    · exact Ev.installFollower_car e _ _ _
    · exact .refl e
  · exact .refl e

theorem Ev.takeDissolve_car (e : Ev) (p : Port) (g : Byte) : CarKept e (e.takeDissolve p g) := by
  unfold Ev.takeDissolve
  split
  · split
    · refine CarKept.trans (b := _) ?_ (Ev.loseTable_car _ _ _)
      split
      · exact (Ev.sendFamily_kept e _ _ _).toCarKept
      · exact .refl e
    · exact .refl e
  · exact .refl e

theorem Ev.takeBeacon_car (e : Ev) (b : BeaconBody) : CarKept e (e.takeBeacon b) := by
  have h1 : CarKept e (e.acceptBeacon b) := by
    unfold Ev.acceptBeacon
    dsimp only
    split
    · exact .setConsist e _
    · exact .refl e
  unfold Ev.takeBeacon
  dsimp only
  refine CarKept.trans ?_ (Ev.monitorBeacon_kept _).toCarKept
  split
  · exact h1.trans (Ev.summaryBeacon_kept _ _).toCarKept
  · exact (h1.trans (Ev.summaryBeacon_kept _ _).toCarKept).trans (Ev.demandBeacon_kept _ _).toCarKept

theorem Ev.takeReport_car (e : Ev) : CarKept e e.takeReport := by
  unfold Ev.takeReport
  split
  · exact Ev.askResweep_car e
  · exact .refl e

theorem Ev.takeFamily_car (e : Ev) (p : Port) (k : Kind) (b : List Byte) :
    CarKept e (e.takeFamily p k b) := by
  unfold Ev.takeFamily
  split
  · split
    · exact Ev.takeSweep_car e p _
    · exact .refl e
  · split
    · exact Ev.takeReturn_car e p _
    · exact .refl e
  · split
    · exact Ev.takeSweepFail_car e p _
    · exact .refl e
  · split
    · exact Ev.takeConfirm_car e p _
    · exact .refl e
  · split
    · exact Ev.takeDissolve_car e p _
    · exact .refl e
  all_goals exact .refl e

/-! ## Ports -/

theorem Ev.changeLink_kept (e : Ev) (p : Port) (lp : LinkPort) (c : LinkCause) :
    PortKept e (e.changeLink p lp c) :=
  ((PortKept.setPort e p lp).trans (TrainKept.notice _ _ _ _).toPort).trans (TrainKept.ask _ _).toPort

theorem Ev.leaveUp_car (e : Ev) (p : Port) (st : LinkState) (c : LinkCause) : BodyKept e (e.leaveUp p st c) :=
  ((Ev.changeLink_kept e p _ c).toBodyKept.trans (Ev.disposeTraffic_frame _ p).kept.toBodyKept).trans
    (Ev.consistPortLost_car _ p).toBodyKept

theorem Ev.frameError_kept (e : Ev) (p : Port) : PortKept e (e.frameError p) := .setPort e p _

theorem Ev.markReceived_car (e : Ev) (p : Port) (i : Ident) (x : Byte) : BodyKept e (e.markReceived p i x) := by
  unfold Ev.markReceived
  split
  · split
    · exact (Ev.changeLink_kept e p _ _).toBodyKept
    · unfold Ev.settlingMark
      dsimp only
      split
      · exact .setPort e p _
      · split
        · exact .setPort e p _
        · exact (Ev.changeLink_kept e p _ _).toBodyKept.trans (Ev.consistPortUp_car _ p).toBodyKept
    · unfold Ev.upMark
      dsimp only
      split
      · exact .setPort e p _
      · exact (Ev.leaveUp_car e p _ _).trans (Ev.changeLink_kept _ p _ _).toBodyKept
    · exact .refl e
  · exact (Ev.frameError_kept e p).toBodyKept

theorem Ev.silenceExpiry_car (e : Ev) (p : Port) : BodyKept e (e.silenceExpiry p) := by
  unfold Ev.silenceExpiry
  dsimp only
  split
  · exact (Ev.changeLink_kept e p _ _).toBodyKept
  · exact Ev.leaveUp_car e p _ _
  all_goals exact .refl e

theorem Ev.grade_car (e : Ev) (p : Port) (n : Word) : BodyKept e (e.grade p n) := by
  unfold Ev.grade
  dsimp only
  split
  · exact .refl _
  · exact .refl _
  · split
    · split
      · exact .setPort _ p _
      · exact (BodyKept.setPort _ p _).trans (Ev.leaveUp_car _ p _ _)
    · exact .setPort _ p _
  · split
    · split
      · exact .setPort _ p _
      · exact (Ev.changeLink_kept _ p _ _).toBodyKept
    · exact .setPort _ p _

theorem Ev.portWindowEnd_car (e : Ev) (p : Port) : BodyKept e (e.portWindowEnd p) :=
  BodyKept.trans (BodyKept.setPort e p { e.port p with lastErr := (e.port p).winErr, winErr := 0 })
    (Ev.grade_car _ p _)

theorem Ev.windowsEnd_car (e : Ev) : BodyKept e e.windowsEnd := by
  unfold Ev.windowsEnd
  exact ((Ev.portWindowEnd_car e .p1).trans (Ev.portWindowEnd_car _ .p2)).trans (TrainKept.ask _ _).toBodyKept

theorem Ev.nextFrame_kept (e : Ev) (p : Port) : PortKept e (e.nextFrame p) := by
  unfold Ev.nextFrame
  split
  · exact .setPort e p _
  · exact (Ev.kick_frame e p).kept.toPort

theorem Ev.frameEnd_kept (e : Ev) (p : Port) : PortKept e (e.frameEnd p) := by
  unfold Ev.frameEnd
  split
  · exact .refl e
  · exact ((PortKept.setPort e p _).trans (Ev.settleCopy_frame _ _ _).kept.toPort).trans (Ev.nextFrame_kept _ p)
  all_goals exact (PortKept.setPort e p _).trans (Ev.nextFrame_kept _ p)

theorem Ev.markDue_kept (e : Ev) (p : Port) : PortKept e (e.markDue p) := by
  unfold Ev.markDue
  split <;> exact .setPort e p _

theorem Ev.restoreLink_kept (e : Ev) (x : Byte) : PortKept e (e.restoreLink x).1 := by
  unfold Ev.restoreLink
  split
  · exact .refl e
  · split
    · exact Ev.changeLink_kept e _ _ _
    · exact .refl e

/-! ## Sending -/

theorem Ev.originateData_kept (e : Ev) (o : Outgoing) : TrainKept e (e.originateData o).1 := by
  unfold Ev.originateData
  split
  · exact (Ev.sendNeighbour_frame e _ _ _).kept
  all_goals exact Ev.originate_kept e _ _

theorem Ev.acceptSend_kept (e : Ev) (n : Fin 16) (id : Nat) (seq : Word) (x : Originated) :
    TrainKept e (e.acceptSend n id seq x).1 := by
  have hr : ∀ (e : Ev) (r : Relay), TrainKept e (e.setRelay r) := fun e r => (RelayOnly.setRelay e r).kept
  unfold Ev.acceptSend
  dsimp only
  split
  · exact (hr _ _).trans (Ev.offerLocal_kept _ _)
  · exact ((hr _ _).trans (Ev.offerLocal_kept _ _)).trans (hr _ _)

theorem Ev.admitSend_kept (e : Ev) (n : Fin 16) (o : Outgoing) : TrainKept e (e.admitSend n o).1 := by
  unfold Ev.admitSend
  dsimp only
  split
  · exact Ev.originateData_kept e o
  · exact (Ev.originateData_kept e o).trans (Ev.acceptSend_kept _ n _ _ _)

theorem Ev.trySend_kept (e : Ev) (n : Fin 16) (lo hi : Byte) (o : Outgoing) :
    TrainKept e (e.trySend n lo hi o).1 := by
  unfold Ev.trySend
  split
  · exact .refl e
  · split
    · exact .refl e
    · exact Ev.admitSend_kept e n o

theorem Ev.sendCommand_kept (e : Ev) (n : Fin 16) (a b c d f : Byte) (l : Nat) (r : List Byte) :
    TrainKept e (e.sendCommand n a b c d f l r).1 := by
  unfold Ev.sendCommand
  split
  · split
    · exact .refl e
    · split
      · exact .refl e
      · split
        · exact .refl e
        · exact Ev.trySend_kept e n c d _
  · exact .refl e

theorem Ev.abandonSend_kept (e : Ev) (id : Nat) (x : Ev × WaitSend) (h : e.abandonSend id = some x) :
    TrainKept e x.1 := by
  unfold Ev.abandonSend at h
  split at h
  · split at h
    · cases h
      exact ⟨⟨⟨rfl, rfl, rfl, rfl, rfl, rfl⟩, rfl, rfl⟩, rfl⟩
    · cases h
  · cases h

end Sys2Proof.Machine
end

