-- ==== Sys2Proof/Laws/Memory.lean ====
section
/-! SUPPORT. The list of host-written words: what a write changes, and that every write keeps the canonical form and lists host-written words only. -/

namespace Sys2Proof.Machine

theorem Memory.above_mono {a b : Nat} {m : Memory} (h : a < b) (hm : Memory.above b m = true) :
    Memory.above a m = true := by
  simp only [Memory.above, List.all_eq_true, decide_eq_true_eq] at *
  intro c hc
  exact Nat.lt_trans h (hm c hc)

theorem Memory.read_above {a : Nat} {m : Memory} (h : Memory.above a m = true) :
    Memory.read m a = unlistedWord := by
  induction m with
  | nil => rfl
  | cons c m ih =>
    simp only [Memory.above, List.all_cons, Bool.and_eq_true, decide_eq_true_eq] at h
    obtain ⟨h1, h2⟩ := h
    simp only [Memory.read]
    rw [if_neg (by omega)]
    exact ih (by simpa [Memory.above] using h2)

/-- The written word reads as written, every other word as before. -/
theorem Memory.read_write (m : Memory) (a b : Nat) (w : Word) (h : Memory.wf m = true) :
    Memory.read (Memory.write m a w) b = if b = a then w else Memory.read m b := by
  induction m with
  | nil =>
    simp only [Memory.write]
    split
    · next hw => split <;> simp_all [Memory.read]
    · simp only [Memory.read, eq_comm]
  | cons c m ih =>
    obtain ⟨x, v⟩ := c
    simp only [Memory.wf, Bool.and_eq_true] at h
    obtain ⟨⟨_, h2⟩, h3⟩ := h
    simp only [Memory.write]
    split
    · next hlt =>
      have hr : Memory.read ((x, v) :: m) a = unlistedWord := by
        apply Memory.read_above
        simp only [Memory.above, List.all_cons, Bool.and_eq_true, decide_eq_true_eq]
        exact ⟨hlt, by simpa [Memory.above] using Memory.above_mono hlt h2⟩
      split
      · next hw =>
        split
        · next hb => rw [hb, hr, hw]
        · rfl
      · rw [Memory.read]
        split
        · next hb => rw [if_pos hb.symm]
        · next hb => rw [if_neg (Ne.symm hb)]
    · next hge =>
      split
      · next he =>
        subst he
        split
        · next hw =>
          split
          · next hb => rw [hb, Memory.read_above h2, hw]
          · next hb => rw [Memory.read, if_neg (Ne.symm hb)]
        · simp only [Memory.read]
          split
          · next hb => rw [if_pos hb.symm]
          · next hb => rw [if_neg (Ne.symm hb)]
      · next hne =>
        simp only [Memory.read, ih h3]
        split
        · next hb => rw [if_neg (by omega)]
        · rfl

theorem Memory.above_write {a b : Nat} {m : Memory} {w : Word} (h : b < a) (hm : Memory.above b m = true) :
    Memory.above b (Memory.write m a w) = true := by
  induction m with
  | nil =>
    simp only [Memory.write]
    split <;> simp [Memory.above, h]
  | cons c m ih =>
    obtain ⟨x, v⟩ := c
    have hm' := hm
    simp only [Memory.above, List.all_cons, Bool.and_eq_true, decide_eq_true_eq] at hm
    have ht : Memory.above b m = true := by simpa [Memory.above] using hm.2
    simp only [Memory.write]
    split
    · split
      · exact hm'
      · simp only [Memory.above, List.all_cons, Bool.and_eq_true, decide_eq_true_eq]
        exact ⟨h, hm.1, hm.2⟩
    · split
      · split
        · exact ht
        · simp only [Memory.above, List.all_cons, Bool.and_eq_true, decide_eq_true_eq]
          exact ⟨h, hm.2⟩
      · have := ih ht
        simp only [Memory.above, List.all_cons, Bool.and_eq_true, decide_eq_true_eq]
        exact ⟨hm.1, by simpa [Memory.above] using this⟩

/-- A write keeps the canonical form. -/
theorem Memory.write_wf (m : Memory) (a : Nat) (w : Word) (h : Memory.wf m = true) :
    Memory.wf (Memory.write m a w) = true := by
  induction m with
  | nil =>
    simp only [Memory.write]
    split
    · rfl
    · next hw => simp [Memory.wf, Memory.above, hw]
  | cons c m ih =>
    obtain ⟨x, v⟩ := c
    have h' := h
    simp only [Memory.wf, Bool.and_eq_true, decide_eq_true_eq] at h
    obtain ⟨⟨h1, h2⟩, h3⟩ := h
    simp only [Memory.write]
    split
    · next hlt =>
      split
      · exact h'
      · next hw =>
        simp only [Memory.wf, Bool.and_eq_true, decide_eq_true_eq]
        refine ⟨⟨hw, ?_⟩, ⟨h1, h2⟩, h3⟩
        simp only [Memory.above, List.all_cons, Bool.and_eq_true, decide_eq_true_eq]
        exact ⟨hlt, by simpa [Memory.above] using Memory.above_mono hlt h2⟩
    · split
      · next he =>
        subst he
        split
        · exact h3
        · next hw =>
          simp only [Memory.wf, Bool.and_eq_true, decide_eq_true_eq]
          exact ⟨⟨hw, h2⟩, h3⟩
      · next hge hne =>
        simp only [Memory.wf, Bool.and_eq_true, decide_eq_true_eq]
        exact ⟨⟨h1, Memory.above_write (by omega) h2⟩, ih h3⟩

/-- What a write lists is the address written or was listed before. -/
theorem Memory.mem_write {m : Memory} {a : Nat} {w : Word} {c : Nat × Word} (h : c ∈ Memory.write m a w) :
    c.1 = a ∨ c ∈ m := by
  induction m with
  | nil =>
    simp only [Memory.write] at h
    split at h
    · exact absurd h (by simp)
    · simp only [List.mem_singleton] at h
      exact .inl (by rw [h])
  | cons x m ih =>
    obtain ⟨b, v⟩ := x
    simp only [Memory.write] at h
    split at h
    · split at h
      · exact .inr h
      · rcases List.mem_cons.1 h with h | h
        · exact .inl (by rw [h])
        · exact .inr h
    · split at h
      · split at h
        · exact .inr (List.mem_cons_of_mem _ h)
        · rcases List.mem_cons.1 h with h | h
          · exact .inl (by rw [h])
          · exact .inr (List.mem_cons_of_mem _ h)
      · rcases List.mem_cons.1 h with h | h
        · exact .inr (by rw [h]; exact List.mem_cons_self ..)
        · exact (ih h).imp id (List.mem_cons_of_mem _)

theorem Memory.write_hostOnly {m : Memory} {a : Nat} {w : Word} (ha : hostWritten a = true)
    (h : Memory.hostOnly m) : Memory.hostOnly (Memory.write m a w) := by
  intro c hc
  rcases Memory.mem_write hc with hc | hc
  · rw [hc]; exact ha
  · exact h c hc

theorem Memory.writeWords_wf (ws : List Word) (m : Memory) (a : Nat) (h : Memory.wf m = true) :
    Memory.wf (Memory.writeWords m a ws) = true := by
  induction ws generalizing m a with
  | nil => exact h
  | cons w ws ih => exact ih _ _ (Memory.write_wf m a w h)

theorem Memory.writeWords_hostOnly (ws : List Word) (m : Memory) (a : Nat)
    (ha : ∀ i, i < ws.length → hostWritten (a + i) = true) (h : Memory.hostOnly m) :
    Memory.hostOnly (Memory.writeWords m a ws) := by
  induction ws generalizing m a with
  | nil => exact h
  | cons w ws ih =>
    refine ih _ _ (fun i hi => ?_) (Memory.write_hostOnly (by simpa using ha 0 (by simp)) h)
    have := ha (i + 1) (by simpa using hi)
    rwa [Nat.add_assoc, Nat.add_comm 1 i]

/-- The words written, and every other word as before. -/
theorem Memory.read_writeWords (ws : List Word) (m : Memory) (a b : Nat) (h : Memory.wf m = true) :
    Memory.read (Memory.writeWords m a ws) b =
      if a ≤ b ∧ b < a + ws.length then ws.getD (b - a) 0 else Memory.read m b := by
  induction ws generalizing m a with
  | nil => rw [if_neg (by simp)]; rfl
  | cons w ws ih =>
    rw [Memory.writeWords, ih _ _ (Memory.write_wf m a w h), Memory.read_write m a b w h]
    by_cases h1 : b = a
    · subst h1
      rw [if_neg (by omega), if_pos rfl, if_pos (by simp)]
      simp
    · rw [if_neg h1]
      by_cases h2 : a ≤ b ∧ b < a + (ws.length + 1)
      · rw [if_pos (by omega), if_pos (by simpa using h2)]
        obtain ⟨k, rfl⟩ : ∃ k, b = a + 1 + k := ⟨b - (a + 1), by omega⟩
        have e1 : a + 1 + k - (a + 1) = k := by omega
        have e2 : a + 1 + k - a = k + 1 := by omega
        rw [e1, e2]
        rfl
      · rw [if_neg (by omega), if_neg (by simpa using h2)]

end Sys2Proof.Machine
end

