-- ==== Sys2Proof/Laws/Iface.lean ====
section
/-! SUPPORT. What the exchange interface's operations can do: queue bounds kept, what each effect leaves alone, and the memory a command of a slot leaves. -/

namespace Sys2Proof.Machine

/-! ## Four of a kind -/

@[simp] theorem Quad.get_set {α : Type} (q : Quad α) (i j : Fin 4) (a : α) :
    (q.set i a).get j = if j = i then a else q.get j := by
  match i, j with
  | 0, 0 | 0, 1 | 0, 2 | 0, 3 | 1, 0 | 1, 1 | 1, 2 | 1, 3 | 2, 0 | 2, 1 | 2, 2 | 2, 3 | 3, 0 | 3, 1 | 3, 2 | 3, 3 =>
    rfl

/-! ## Fields that stand -/

@[simp] theorem Iface.setCause_queues (i : Iface) (c : Cause) : (i.setCause c).queues = i.queues := rfl
@[simp] theorem Iface.setCause_slots (i : Iface) (c : Cause) : (i.setCause c).slots = i.slots := rfl
@[simp] theorem Iface.setCause_pages (i : Iface) (c : Cause) : (i.setCause c).pages = i.pages := rfl
@[simp] theorem Iface.setCause_deliver (i : Iface) (c : Cause) : (i.setCause c).deliver = i.deliver := rfl
@[simp] theorem Iface.setCause_scan (i : Iface) (c : Cause) : (i.setCause c).scan = i.scan := rfl
@[simp] theorem Iface.setCause_enable (i : Iface) (c : Cause) : (i.setCause c).enable = i.enable := rfl
@[simp] theorem Iface.setPage_queues (i : Iface) (p : PageId) (g : Page) : (i.setPage p g).queues = i.queues := rfl
@[simp] theorem Iface.setSlot_queues (i : Iface) (n : Fin 16) (x : Slot) : (i.setSlot n x).queues = i.queues := rfl

@[simp] theorem Iface.pageCause_queues (i : Iface) (h : Memory) (p : PageId) :
    (i.pageCause h p).queues = i.queues := by
  unfold Iface.pageCause
  split <;> rfl

@[simp] theorem Iface.publish_queues (i : Iface) (h : Memory) (p : PageId) (c : List Word) :
    (i.publish h p c).queues = i.queues := by
  unfold Iface.publish
  dsimp only
  split
  · rfl
  · rw [Iface.pageCause_queues]; rfl

@[simp] theorem Iface.releasePage_queues (i : Iface) (h : Memory) (p : PageId) :
    (i.releasePage h p).queues = i.queues := by
  unfold Iface.releasePage
  dsimp only
  split
  · rfl
  · rw [Iface.pageCause_queues]; rfl

@[simp] theorem Iface.finishSlot_queues (i : Iface) (n : Fin 16) (st : SlotState) (r a b c : Word) :
    (i.finishSlot n st r a b c).queues = i.queues := rfl

/-! ## Delivery queues (R175, R176) -/

/-- A delivery to a queue with room adds one entry. -/
theorem DQueue.push_occupancy (q : DQueue) (x : Entry) (h : q.occupancy < 8) :
    (q.push x).occupancy = q.occupancy + 1 := by
  simp only [DQueue.occupancy, DQueue.push] at *
  have e : q.fill + 1 - q.validDrain = (q.fill - q.validDrain) + 1 := by
    generalize q.fill = a; generalize q.validDrain = b
    revert a b; decide
  rw [e]
  clear e
  generalize q.fill - q.validDrain = a at *
  revert a; decide

theorem Iface.queuesBounded_of_eq {i j : Iface} (h : j.queues = i.queues) (hi : i.queuesBounded) :
    j.queuesBounded := by
  intro q
  rw [h]
  exact hi q

theorem Iface.deliverTo_bounded (i : Iface) (k : Fin 4) (x : Entry) (h : i.queuesBounded) :
    (i.deliverTo k x).queuesBounded := by
  unfold Iface.deliverTo
  dsimp only
  split
  · next hlt =>
    have hb : Iface.queuesBounded { i with queues := i.queues.set k ((i.queues.get k).push x) } := by
      intro q
      simp only [Quad.get_set]
      split
      · rw [DQueue.push_occupancy _ _ hlt]; omega
      · exact h q
    split
    · exact Iface.queuesBounded_of_eq (Iface.setCause_queues _ _) hb
    · exact hb
  · refine Iface.queuesBounded_of_eq (Iface.setCause_queues _ _) ?_
    intro q
    simp only [Quad.get_set]
    split
    · next hq => subst hq; exact h q
    · exact h q

theorem Iface.offerItem_bounded (i : Iface) (w : Word) (x : Entry) (h : i.queuesBounded) :
    (i.offerItem w x).queuesBounded := by
  unfold Iface.offerItem
  split
  · split
    · exact Iface.deliverTo_bounded i _ x h
    · exact h
  · exact h

theorem Iface.apply_bounded (m : Memory) (i : Iface) (x : Effect) (h : i.queuesBounded) :
    (Iface.apply m i x).queuesBounded := by
  cases x with
  | notice k t a b => exact Iface.offerItem_bounded i _ _ h
  | offer p t x => exact Iface.offerItem_bounded i _ _ h
  | publish p c => exact Iface.queuesBounded_of_eq (Iface.publish_queues ..) h
  | complete n a b c => exact Iface.queuesBounded_of_eq (Iface.finishSlot_queues ..) h

theorem Iface.applyAll_bounded (m : Memory) (xs : List Effect) (i : Iface) (h : i.queuesBounded) :
    (i.applyAll m xs).queuesBounded := by
  induction xs generalizing i with
  | nil => exact h
  | cons x xs ih => exact ih _ (Iface.apply_bounded m i x h)

theorem Iface.drain_bounded (i : Iface) (q : Fin 4) (w : Word) (h : i.queuesBounded) :
    (i.drain q w).queuesBounded := by
  unfold Iface.drain
  dsimp only
  split
  · next hd =>
    intro k
    simp only [Quad.get_set]
    split
    · exact hd
    · exact h k
  · exact Iface.queuesBounded_of_eq (Iface.setCause_queues _ _) h

theorem DQueue.restart_occupancy (q : DQueue) : q.restart.occupancy = 0 := by
  simp [DQueue.restart, DQueue.occupancy]

theorem Iface.restart_bounded (i : Iface) : i.restart.queuesBounded := by
  intro q
  match q with
  | 0 | 1 | 2 | 3 => exact Nat.le_trans (Nat.le_of_eq (DQueue.restart_occupancy _)) (by decide)

theorem Iface.reset_bounded : Iface.queuesBounded {} := by
  intro q
  match q with
  | 0 | 1 | 2 | 3 => decide

/-! ## Effects that leave the switches, enables and scanner alone -/

theorem Iface.offerItem_scan (i : Iface) (w : Word) (x : Entry) : (i.offerItem w x).scan = i.scan := by
  unfold Iface.offerItem Iface.deliverTo
  dsimp only
  repeat' split
  all_goals rfl

theorem Iface.publish_scan (i : Iface) (h : Memory) (p : PageId) (c : List Word) :
    (i.publish h p c).scan = i.scan := by
  unfold Iface.publish Iface.pageCause
  dsimp only
  repeat' split
  all_goals rfl

theorem Iface.applyAll_scan (m : Memory) (xs : List Effect) (i : Iface) : (i.applyAll m xs).scan = i.scan := by
  induction xs generalizing i with
  | nil => rfl
  | cons x xs ih =>
    refine (ih _).trans ?_
    cases x with
    | notice k t a b => exact Iface.offerItem_scan i _ _
    | offer p t x => exact Iface.offerItem_scan i _ _
    | publish p c => exact Iface.publish_scan i m p c
    | complete n a b c => rfl

/-! ## Slots -/

theorem Iface.slot_setSlot (i : Iface) (n k : Fin 16) (x : Slot) :
    (i.setSlot n x).slot k = if k = n then x else i.slot k := by
  simp only [Iface.slot, Iface.setSlot]
  by_cases h : k = n
  · subst h; simp
  · rw [if_neg h]
    exact Vector.getElem_set_ne _ _ (fun e => h (Fin.ext e.symm))

/-! ## The memory a command leaves -/

/-- Words 0..3 and 16..255 of a slot are host-written (R166). -/
theorem hostWritten_slot (n : Fin 16) (i : Nat) (h : i < 4 ∨ (16 ≤ i ∧ i < 256)) :
    hostWritten (slotAddr n i) = true := by
  have hn := n.isLt
  have e : (slotAddr n i - 0x200) % 256 = i := by unfold slotAddr; omega
  have h1 : decide (0x200 ≤ slotAddr n i) = true := decide_eq_true (by unfold slotAddr; omega)
  have h2 : decide (slotAddr n i < 0x1200) = true := decide_eq_true (by unfold slotAddr; omega)
  unfold hostWritten
  rw [e, h1, h2]
  rcases h with h | h
  · rw [decide_eq_true h]; simp
  · rw [decide_eq_true h.1]; simp

/-- A slot command row and ABANDON write host-written words of their slot only. -/
theorem State.post_host (s : State) (n : Fin 16) (r : Request) (body : List Byte) :
    (Memory.wf s.host = true → Memory.wf (s.post n r body).host = true) ∧
    (s.host.hostOnly → (s.post n r body).host.hostOnly) := by
  constructor
  · intro h
    exact Memory.write_wf _ _ _ (Memory.write_wf _ _ _ (Memory.writeWords_wf _ _ _ h))
  · intro h
    have hl : ∀ bs : List Byte, (packBytes bs).length ≤ (bs.length + 1) / 2 := by
      intro bs
      induction bs using packBytes.induct with
      | case1 => simp [packBytes]
      | case2 => simp [packBytes]
      | case3 b c bs ih =>
        simp only [packBytes, List.length_cons]
        omega
    refine Memory.write_hostOnly (hostWritten_slot n 0 (.inl (by omega)))
      (Memory.write_hostOnly (hostWritten_slot n 1 (.inl (by omega)))
        (Memory.writeWords_hostOnly _ _ _ (fun i hi => ?_) h))
    have h1 := hl (body.take Config.maxBody)
    have h2 : (body.take Config.maxBody).length ≤ 480 := by
      rw [List.length_take]; exact Nat.min_le_left ..
    have e : slotAddr n 16 + i = slotAddr n (16 + i) := by unfold slotAddr; omega
    rw [e]
    exact hostWritten_slot n (16 + i) (.inr (by omega))

end Sys2Proof.Machine
end

