-- ==== Sys2Proof/Laws/Doors.lean ====
section
/-! SUPPORT. R88 and R100 through the operations: which of them leave the sides, the motion record and the profile alone, and that those which do not keep the releases safe. -/

namespace Sys2Proof.Machine

/-- The items R88 and R100 speak of stand. -/
structure SidesKept (e e' : Ev) : Prop where
  profile : e'.profile = e.profile
  motion : e'.motion = e.motion
  left : e'.doors.left = e.doors.left
  right : e'.doors.right = e.doors.right

theorem SidesKept.refl (e : Ev) : SidesKept e e := ⟨rfl, rfl, rfl, rfl⟩

theorem SidesKept.trans {a b c : Ev} (h1 : SidesKept a b) (h2 : SidesKept b c) : SidesKept a c :=
  ⟨h2.profile.trans h1.profile, h2.motion.trans h1.motion, h2.left.trans h1.left, h2.right.trans h1.right⟩

theorem BodyKept.sides {e e' : Ev} (h : BodyKept e e') : SidesKept e e' := ⟨h.profile, h.motion, h.left, h.right⟩

/-- What R88 and R100 say reads only those items. -/
theorem Blocks.releaseSafe_congr {b b' : Blocks} (h1 : b'.profile = b.profile) (h2 : b'.motion = b.motion)
    (h3 : b'.doors.left = b.doors.left) (h4 : b'.doors.right = b.doors.right) (h : b.releaseSafe) :
    b'.releaseSafe := by
  obtain ⟨ha, hb⟩ := h
  refine ⟨by rw [h1, h2]; exact ha, fun s => ?_⟩
  have := hb s
  cases s
  · show SideRec.releaseSafe b'.doors.left _ _ ∧ SideRec.exclusive b'.doors.left
    rw [h3, h1, h2]; exact this
  · show SideRec.releaseSafe b'.doors.right _ _ ∧ SideRec.exclusive b'.doors.right
    rw [h4, h1, h2]; exact this

theorem SidesKept.safe {e e' : Ev} (h : SidesKept e e') (hs : e.toBlocks.releaseSafe) :
    e'.toBlocks.releaseSafe := Blocks.releaseSafe_congr h.profile h.motion h.left h.right hs

theorem SidesKept.setConverter (e : Ev) (x : Converter) : SidesKept e (e.setConverter x) := ⟨rfl, rfl, rfl, rfl⟩
theorem SidesKept.setHeater (e : Ev) (x : Heater) : SidesKept e (e.setHeater x) := ⟨rfl, rfl, rfl, rfl⟩
theorem SidesKept.setDemand (e : Ev) (x : Demand) : SidesKept e (e.setDemand x) := ⟨rfl, rfl, rfl, rfl⟩
theorem SidesKept.setMonitor (e : Ev) (x : Monitor) : SidesKept e (e.setMonitor x) := ⟨rfl, rfl, rfl, rfl⟩
theorem SidesKept.setAlloc (e : Ev) (x : Alloc) : SidesKept e (e.setAlloc x) := ⟨rfl, rfl, rfl, rfl⟩
theorem SidesKept.setSummary (e : Ev) (x : Judgement) : SidesKept e (e.setSummary x) := ⟨rfl, rfl, rfl, rfl⟩
theorem SidesKept.ask (e : Ev) (p : PageId) : SidesKept e (e.ask p) := ⟨rfl, rfl, rfl, rfl⟩
theorem SidesKept.notice (e : Ev) (k : Notice) (a b : Word) : SidesKept e (e.notice k a b) := ⟨rfl, rfl, rfl, rfl⟩
theorem SidesKept.publishNow (e : Ev) (p : PageId) : SidesKept e (e.publishNow p) := ⟨rfl, rfl, rfl, rfl⟩
theorem SidesKept.complete (e : Ev) (n : Option (Fin 16)) (a b c : Word) : SidesKept e (e.complete n a b c) :=
  (TrainKept.complete e n a b c).toBodyKept.sides
theorem SidesKept.recompute (e : Ev) : SidesKept e e.recompute := .setDemand e _
theorem SidesKept.beginPhase (e : Ev) (p : Phase) : SidesKept e (e.beginPhase p) := .setConverter e _
theorem SidesKept.startScan (e : Ev) : SidesKept e e.startScan := .setMonitor e _

/-! ## Heating (chapter 7) leaves the sides alone -/

theorem Ev.noteUnavailable_sides (e : Ev) (ch : Chan) (a b : Channel) : SidesKept e (e.noteUnavailable ch a b) := by
  unfold Ev.noteUnavailable
  split
  · exact .notice e _ _ _
  · exact .refl e

theorem Ev.resultA_sides (e : Ev) (x : ChanResult) : SidesKept e (e.resultA x) := by
  unfold Ev.resultA
  exact (((SidesKept.setConverter e _).trans (Ev.noteUnavailable_sides _ _ _ _)).trans (.recompute _)).trans
    (.ask _ _)

theorem Ev.examineLatch_sides (e : Ev) (c : Channel) (x : ChanResult) : SidesKept e (e.examineLatch c x) := by
  have hl : ∀ a b, SidesKept e (e.setLatch a b) := fun a b => (SidesKept.setHeater e _).trans (.notice _ _ _ _)
  unfold Ev.examineLatch
  split
  · split
    · split
      · exact .refl e
      · exact hl _ _
    · split
      · exact .setHeater e _
      · exact .refl e
  · split
    · exact hl _ _
    · exact .refl e

theorem Ev.resultB_sides (e : Ev) (x : ChanResult) : SidesKept e (e.resultB x) := by
  unfold Ev.resultB
  exact (((SidesKept.setConverter e _).trans (Ev.noteUnavailable_sides _ _ _ _)).trans
    (Ev.examineLatch_sides _ _ _)).trans (.ask _ _)

theorem Ev.refComplete_sides (e : Ev) (tb : BitVec 20) : SidesKept e (e.refComplete tb) := by
  unfold Ev.refComplete
  split
  · exact (SidesKept.setConverter e _).trans (.beginPhase _ _)
  · exact (SidesKept.setConverter e _).trans (.beginPhase _ _)
  · exact .refl e
  · exact .refl e

theorem Ev.countAbort_sides (e : Ev) (c : Option Chan) : SidesKept e (e.countAbort c) := by
  unfold Ev.countAbort
  dsimp only
  split
  · exact (SidesKept.setConverter e _).trans (.notice _ _ _ _)
  · exact .setConverter e _

theorem Ev.refAbort_sides (e : Ev) : SidesKept e e.refAbort := by
  unfold Ev.refAbort
  split
  · exact ((Ev.countAbort_sides e _).trans (Ev.resultA_sides _ _)).trans (.beginPhase _ _)
  · split
    · exact ((Ev.countAbort_sides e _).trans (Ev.resultB_sides _ _)).trans (.beginPhase _ _)
    · exact (Ev.countAbort_sides e _).trans (.beginPhase _ _)
  · exact .refl e
  · exact .refl e

theorem Ev.senseResult_sides (e : Ev) (x : ChanResult) : SidesKept e (e.senseResult x) := by
  unfold Ev.senseResult
  split
  · exact (Ev.resultA_sides e x).trans (.beginPhase _ _)
  · exact (Ev.resultB_sides e x).trans (.beginPhase _ _)
  · exact .refl e
  · exact .refl e

theorem Ev.adoptLimit_sides (e : Ev) (n : Nat) : SidesKept e (e.adoptLimit n) := by
  unfold Ev.adoptLimit
  dsimp only
  split
  · exact .setConverter e _
  · split
    · split
      · exact ((SidesKept.setConverter e _).trans (.setHeater _ _)).trans (.beginPhase _ _)
      · exact (SidesKept.setConverter e _).trans (.setHeater _ _)
    · exact .refl e

theorem Ev.adoptStandby_sides (e : Ev) (n : Nat) : SidesKept e (e.adoptStandby n) := by
  unfold Ev.adoptStandby
  split
  · exact .recompute e
  · exact .refl e

theorem Ev.heatSet_sides (e : Ev) (s : Word) (g b : Byte) : SidesKept e (e.heatSet s g b).1 := by
  unfold Ev.heatSet
  split
  · exact .refl e
  · exact (SidesKept.setDemand e _).trans (.recompute _)

theorem Ev.monitorCommand_sides (e : Ev) (n : Fin 16) (a b c : Byte) :
    SidesKept e (e.monitorCommand n a b c).1 := by
  unfold Ev.monitorCommand
  split
  · exact .refl e
  · next m _ =>
    split
    · exact .refl e
    · have h1 := (SidesKept.setMonitor e (e.monitor.accept a.toNat b.toNat m)).trans
        (.complete _ e.monitor.waitSlot 2 0 0)
      cases m
      · exact h1.trans (.ask _ _)
      · exact h1.trans ((SidesKept.setMonitor _ _).trans (.startScan _))
      · exact h1.trans ((SidesKept.setMonitor _ _).trans (.startScan _))
      · exact h1

theorem Ev.scanDone_sides (e : Ev) (a b c d : BitVec 12) : SidesKept e (e.scanDone a b c d) := by
  unfold Ev.scanDone
  split
  · exact .refl e
  · dsimp only
    split
    · exact (((SidesKept.setMonitor e _).trans (.publishNow _ _)).trans (.setMonitor _ _)).trans
        (.complete _ _ _ _ _)
    all_goals exact (SidesKept.setMonitor e _).trans (.publishNow _ _)

theorem Ev.periodExpiry_sides (e : Ev) : SidesKept e e.periodExpiry := by
  unfold Ev.periodExpiry
  split
  · exact (SidesKept.setMonitor e _).trans (.startScan _)
  · exact .refl e

theorem Ev.budget_sides (e : Ev) (b v : Word) : SidesKept e (e.budget b v).1 := by
  unfold Ev.budget
  split
  · exact .refl e
  · exact .setAlloc e _

theorem Ev.grantExpiry_sides (e : Ev) : SidesKept e e.grantExpiry := by
  unfold Ev.grantExpiry
  split
  · exact ((SidesKept.setHeater e _).trans (.notice _ _ _ _)).trans (.ask _ _)
  · exact .refl e

theorem Ev.ageExpiry_sides (e : Ev) : SidesKept e e.ageExpiry := by
  unfold Ev.ageExpiry
  split
  · exact (SidesKept.setSummary e _).trans (.ask _ _)
  · exact .refl e

/-! ## One side -/

theorem SideRec.examine_release (r : SideRec) (n : Nat) : (r.examine n).release = r.release := by
  unfold SideRec.examine
  split <;> rfl

theorem SideRec.examine_basis (r : SideRec) (n : Nat) : (r.examine n).basis = r.basis := by
  unfold SideRec.examine
  split <;> rfl

theorem SideRec.examine_exclusive {r : SideRec} (n : Nat) (h : r.exclusive) : (r.examine n).exclusive := by
  unfold SideRec.examine
  split
  · exact fun x => absurd x.2 (by simp)
  · exact h

/-- A closed side has no release. -/
theorem SideRec.close_release (r : SideRec) (n : Nat) : (r.close n).release = false :=
  SideRec.examine_release _ _

/-- A side is safe: R100 and R88 together. -/
def SideRec.safe (r : SideRec) (sensor : Bool) (m : MotionState) : Prop := r.releaseSafe sensor m ∧ r.exclusive

theorem SideRec.safe_of_off {r : SideRec} {f : Bool} {m : MotionState} (h : r.release = false) : r.safe f m := by
  constructor
  · intro hr; rw [h] at hr; exact absurd hr (by simp)
  · intro hr; rw [h] at hr; exact absurd hr.1 (by simp)

theorem SideRec.safe_close (r : SideRec) (n : Nat) (f : Bool) (m : MotionState) : (r.close n).safe f m :=
  SideRec.safe_of_off (SideRec.close_release r n)

theorem SideRec.safe_examine {r : SideRec} (n : Nat) {f : Bool} {m : MotionState} (h : r.safe f m) :
    (r.examine n).safe f m := by
  refine ⟨fun hr => ?_, SideRec.examine_exclusive n h.2⟩
  rw [SideRec.examine_basis]
  rw [SideRec.examine_release] at hr
  exact h.1 hr

theorem SideRec.safe_doors {r : SideRec} (x : Quad DoorRec) {f : Bool} {m : MotionState} (h : r.safe f m) :
    SideRec.safe { r with doors := x } f m := h

theorem SideRec.withdraw_release (r : SideRec) (n : Nat) : (r.withdraw n).release = false := by
  unfold SideRec.withdraw
  split
  · exact SideRec.close_release r n
  · next h => exact (Bool.not_eq_true _).mp h

/-! ## Events of the door block -/

theorem Ev.doorsSettled_sides (e : Ev) (b : Blocks) : SidesKept e (e.doorsSettled b) :=
  (Ev.doorsSettled_kept e b).toBodyKept.sides

/-- The side replaced is safe and the other stands. -/
theorem Ev.setSide_safe (e : Ev) (s : Side) (r : SideRec) (h : e.toBlocks.releaseSafe)
    (hr : r.safe e.profile.sensor e.motion.state) :
    (e.setDoors (e.doors.setSide s r)).toBlocks.releaseSafe := by
  refine ⟨h.1, fun k => ?_⟩
  have := h.2 k
  cases s <;> cases k
  · exact hr
  · exact this
  · exact this
  · exact hr

theorem Blocks.releaseSafe.side {b : Blocks} (h : b.releaseSafe) (s : Side) :
    (b.doors.side s).safe b.profile.sensor b.motion.state := h.2 s

/-! ### The close limit (R91) -/

/-- A door with no limit due is left as it is. -/
theorem Ev.closeLimit_idle (e : Ev) (s : Side) (d : Fin 4) (h : ((e.doors.side s).doors.get d).limitDue = none) :
    e.closeLimit s d = e := by
  unfold Ev.closeLimit
  dsimp only
  rw [h]

/-- A limit taken changes nothing but door records, and asks for no page beside the one it publishes. -/
theorem Ev.closeLimit_frame (e : Ev) (s : Side) (d : Fin 4) :
    (e.closeLimit s d).toBlocks = { e.toBlocks with doors := (e.closeLimit s d).doors } ∧
      (e.closeLimit s d).asks = e.asks := by
  unfold Ev.closeLimit
  dsimp only
  split
  · split <;> exact ⟨rfl, rfl⟩
  · exact ⟨rfl, rfl⟩

/-- The limits of a side taken change nothing but door records, and ask for no page. -/
theorem Ev.sideLimits_frame (e : Ev) (s : Side) :
    (e.sideLimits s).toBlocks = { e.toBlocks with doors := (e.sideLimits s).doors } ∧
      (e.sideLimits s).asks = e.asks := by
  have h0 := Ev.closeLimit_frame e s 0
  have h1 := Ev.closeLimit_frame (e.closeLimit s 0) s 1
  have h2 := Ev.closeLimit_frame ((e.closeLimit s 0).closeLimit s 1) s 2
  have h3 := Ev.closeLimit_frame (((e.closeLimit s 0).closeLimit s 1).closeLimit s 2) s 3
  constructor
  · unfold Ev.sideLimits
    rw [h3.1, h2.1, h1.1, h0.1]
  · exact h3.2.trans (h2.2.trans (h1.2.trans h0.2))

/-- The limits taken change nothing but door records, and ask for no page. -/
theorem Ev.closeLimits_frame (e : Ev) :
    e.closeLimits.toBlocks = { e.toBlocks with doors := e.closeLimits.doors } ∧ e.closeLimits.asks = e.asks := by
  have h0 := Ev.sideLimits_frame e .left
  have h1 := Ev.sideLimits_frame (e.sideLimits .left) .right
  constructor
  · unfold Ev.closeLimits
    rw [h1.1, h0.1]
  · exact h1.2.trans h0.2

theorem Ev.closeLimit_safe (e : Ev) (s : Side) (d : Fin 4) (h : e.toBlocks.releaseSafe) :
    (e.closeLimit s d).toBlocks.releaseSafe := by
  unfold Ev.closeLimit
  dsimp only
  split
  · split
    · exact SidesKept.safe (e := e.setDoors _) ⟨rfl, rfl, rfl, rfl⟩
        (Ev.setSide_safe e s _ h (SideRec.safe_doors _ (h.side s)))
    · exact h
  · exact h

theorem Ev.sideLimits_safe (e : Ev) (s : Side) (h : e.toBlocks.releaseSafe) :
    (e.sideLimits s).toBlocks.releaseSafe :=
  Ev.closeLimit_safe _ s 3 (Ev.closeLimit_safe _ s 2 (Ev.closeLimit_safe _ s 1 (Ev.closeLimit_safe _ s 0 h)))

theorem Ev.closeLimits_safe (e : Ev) (h : e.toBlocks.releaseSafe) : e.closeLimits.toBlocks.releaseSafe :=
  Ev.sideLimits_safe _ .right (Ev.sideLimits_safe _ .left h)

/-! ### Contacts (R90) -/

theorem Ev.makeContact_safe (e : Ev) (s : Side) (d : Fin 4) (h : e.toBlocks.releaseSafe) :
    (e.makeContact s d).toBlocks.releaseSafe := by
  unfold Ev.makeContact
  dsimp only
  split
  · exact (Ev.doorsSettled_sides _ _).safe
      (Ev.setSide_safe e s _ h (SideRec.safe_examine _ (SideRec.safe_doors _ (h.side s))))
  · exact Ev.setSide_safe e s _ h (SideRec.safe_doors _ (h.side s))

theorem Ev.contactMakes_safe (e : Ev) (s : Side) (d : Fin 4) (h : e.toBlocks.releaseSafe) :
    (e.contactMakes s d).toBlocks.releaseSafe :=
  Ev.makeContact_safe _ s d (Ev.closeLimit_safe e s d h)

theorem Ev.noteForced_sides (e : Ev) (s : Side) (d : Fin 4) : SidesKept e (e.noteForced s d) := ⟨rfl, rfl, rfl, rfl⟩

theorem Ev.contactOpens_safe (e : Ev) (s : Side) (d : Fin 4) (h : e.toBlocks.releaseSafe) :
    (e.contactOpens s d).toBlocks.releaseSafe := by
  unfold Ev.contactOpens
  dsimp only
  have hs : ∀ x, (e.setDoors (e.doors.setSide s ((e.doors.side s).setDoor d x))).toBlocks.releaseSafe :=
    fun x => Ev.setSide_safe e s _ h (SideRec.safe_doors _ (h.side s))
  split
  · refine (Ev.doorsSettled_sides _ _).safe ?_
    split
    · exact (Ev.noteForced_sides _ s d).safe (hs _)
    · exact hs _
  · exact hs _

theorem Ev.closeSide_safe (e : Ev) (s : Side) (h : e.toBlocks.releaseSafe) :
    (e.closeSide s).toBlocks.releaseSafe :=
  (Ev.doorsSettled_sides _ _).safe (Ev.setSide_safe e s _ h (SideRec.safe_close _ _ _ _))

theorem Ev.closeSides_safe (ss : List Side) (e : Ev) (h : e.toBlocks.releaseSafe) :
    (e.closeSides ss).toBlocks.releaseSafe := by
  induction ss generalizing e with
  | nil => exact h
  | cons s ss ih => exact ih _ (Ev.closeSide_safe e s h)

/-- A release is admitted only under the motion condition (R96). -/
theorem Blocks.motionCondition_ok {b : Blocks} {flag : Bool} {basis x : Basis}
    (h : b.motionCondition flag basis = .ok x) :
    (b.motion.state = .stopped ∧ x = .sensor) ∨ (b.motion.state = .unfitted ∧ x = basis) := by
  unfold Blocks.motionCondition at h
  split at h
  · next hm => exact .inl ⟨hm, by simpa using h.symm⟩
  · simp at h
  · simp at h
  · simp at h
  · next hm =>
    split at h
    · exact .inr ⟨hm, by simpa using h.symm⟩
    · simp at h

/-- An admitted release whose basis R96 gives. -/
theorem Ev.admitRelease_safe (e : Ev) (s : Side) (b : Basis) (h : e.toBlocks.releaseSafe)
    (hb : (e.motion.state = .stopped ∧ b = .sensor) ∨ (e.motion.state = .unfitted ∧ (b = .flag ∨ b = .attestation))) :
    (e.admitRelease s b).toBlocks.releaseSafe := by
  have h1 := Ev.sideLimits_safe e s h
  have hm : (e.sideLimits s).motion.state = e.motion.state := by rw [(Ev.sideLimits_frame e s).1]
  unfold Ev.admitRelease
  refine (Ev.doorsSettled_sides _ _).safe (Ev.setSide_safe _ s _ h1 ⟨fun _ => ?_, ?_⟩)
  · rcases hb with ⟨hs, rfl⟩ | ⟨hs, hx⟩
    · left
      have hs' := hm.trans hs
      have : ¬ (e.sideLimits s).profile.sensor = false :=
        fun hf => by rw [h1.1.2 hf] at hs'; exact absurd hs' (by decide)
      exact ⟨by simpa using this, hs'⟩
    · right
      exact ⟨h1.1.1 (hm.trans hs), hx⟩
  · exact fun hx => absurd hx.2 (by simp [SideRec.doRelease])

theorem Ev.releaseSide_safe (e : Ev) (s : Side) (flag : Bool) (basis : Basis) (src : ReleaseSource)
    (hb : basis = .flag ∨ basis = .attestation) (h : e.toBlocks.releaseSafe) :
    (e.releaseSide s flag basis src).1.toBlocks.releaseSafe := by
  unfold Ev.releaseSide
  split
  · exact h
  · split
    · next x hx =>
      refine Ev.admitRelease_safe e s x h ?_
      rcases Blocks.motionCondition_ok hx with hm | ⟨hm, hxs⟩
      · exact .inl hm
      · exact .inr ⟨hm, hxs ▸ hb⟩
    · refine (Ev.doorsSettled_sides _ _).safe (SidesKept.safe (e := e) ?_ h)
      unfold Ev.noteRefused
      dsimp only
      split <;> exact ⟨rfl, rfl, rfl, rfl⟩

theorem Ev.takeDoor_safe (e : Ev) (p : List Byte) (h : e.toBlocks.releaseSafe) :
    (e.takeDoor p).toBlocks.releaseSafe := by
  unfold Ev.takeDoor
  split
  · exact h
  · split
    · exact Ev.releaseSide_safe e _ _ _ _ (.inl rfl) h
    · exact Ev.closeSides_safe _ e h
    · exact h

theorem Ev.isolateDoor_safe (e : Ev) (s : Side) (d : Fin 4) (h : e.toBlocks.releaseSafe) :
    (e.isolateDoor s d).toBlocks.releaseSafe := by
  unfold Ev.isolateDoor
  dsimp only
  split
  · exact h
  · exact (Ev.doorsSettled_sides _ _).safe
      (Ev.setSide_safe e s _ h (SideRec.safe_examine _ (SideRec.safe_doors _ (h.side s))))

theorem Ev.isolate_safe (e : Ev) (s : Side) (d : Fin 4) (h : e.toBlocks.releaseSafe) :
    (e.isolate s d).toBlocks.releaseSafe :=
  Ev.isolateDoor_safe _ s d (Ev.closeLimit_safe e s d h)

theorem Ev.restore_safe (e : Ev) (s : Side) (d : Fin 4) (h : e.toBlocks.releaseSafe) :
    (e.restore s d).toBlocks.releaseSafe := by
  unfold Ev.restore
  dsimp only
  have hs : ∀ x, (e.setDoors (e.doors.setSide s ((e.doors.side s).setDoor d x))).toBlocks.releaseSafe :=
    fun x => Ev.setSide_safe e s _ h (SideRec.safe_doors _ (h.side s))
  split
  · refine (Ev.doorsSettled_sides _ _).safe ?_
    split
    · exact (Ev.noteForced_sides _ s d).safe (hs _)
    · exact hs _
  · exact h

theorem Ev.trainDoor_safe (e : Ev) (c : DoorCmd) (h : e.toBlocks.releaseSafe) :
    (e.trainDoor c).1.toBlocks.releaseSafe := by
  unfold Ev.trainDoor
  split
  · exact h
  · split
    · exact h
    · split
      · exact h
      · dsimp only
        have h1 := (Ev.originate_kept e (e.toBlocks.doorOutgoing c) none).toBodyKept.sides.safe h
        unfold Ev.takeLocalDoor
        split
        · exact (Ev.offerLocal_kept _ _).toBodyKept.sides.safe (Ev.takeDoor_safe _ _ h1)
        · exact h1

theorem Ev.carDoor_safe (e : Ev) (c : DoorCmd) (ss : List Side) (h : e.toBlocks.releaseSafe) :
    (e.carDoor c ss).1.toBlocks.releaseSafe := by
  unfold Ev.carDoor
  split
  · exact Ev.closeSides_safe _ e h
  · split
    · exact h
    · split
      · next s =>
        have := Ev.releaseSide_safe e s c.attest .attestation .command (.inr rfl) h
        split
        · next e1 he => rw [he] at this; exact this
        · next e1 why he => rw [he] at this; exact this
      · exact h

theorem Ev.doorCommand_safe (e : Ev) (c : DoorCmd) (h : e.toBlocks.releaseSafe) :
    (e.doorCommand c).1.toBlocks.releaseSafe := by
  unfold Ev.doorCommand
  repeat' split
  all_goals
    first
    | with_reducible exact h
    | with_reducible exact Ev.trainDoor_safe e c h
    | with_reducible exact Ev.carDoor_safe e c _ h
    | with_reducible exact Ev.isolate_safe e _ _ h
    | with_reducible exact Ev.restore_safe e _ _ h

/-! ## Withdrawal (R99) -/

/-- After a withdrawal no release is on, and nothing else that R100 reads has changed. -/
theorem Ev.withdraw_off (e : Ev) :
    e.withdraw.profile = e.profile ∧ e.withdraw.motion = e.motion ∧
      e.withdraw.doors.left.release = false ∧ e.withdraw.doors.right.release = false := by
  unfold Ev.withdraw
  dsimp only
  split
  · refine ⟨(Ev.doorsSettled_sides _ _).profile, (Ev.doorsSettled_sides _ _).motion, ?_, ?_⟩
    · rw [(Ev.doorsSettled_sides _ _).left]
      exact SideRec.withdraw_release _ _
    · rw [(Ev.doorsSettled_sides _ _).right]
      exact SideRec.withdraw_release _ _
  · next h =>
    rw [not_or] at h
    exact ⟨rfl, rfl, (Bool.not_eq_true _).mp h.1, (Bool.not_eq_true _).mp h.2⟩

theorem Ev.withdraw_safe (e : Ev) (h : e.motion.state = .unfitted ↔ e.profile.sensor = false) :
    e.withdraw.toBlocks.releaseSafe := by
  obtain ⟨h1, h2, h3, h4⟩ := Ev.withdraw_off e
  refine ⟨?_, fun s => ?_⟩
  · show e.withdraw.motion.state = .unfitted ↔ e.withdraw.profile.sensor = false
    rw [h1, h2]; exact h
  · cases s
    · exact SideRec.safe_of_off h3
    · exact SideRec.safe_of_off h4

/-! ## Motion (R80 to R83) -/

/-- Window ends neither fit nor remove a sensor. -/
theorem Motion.windowEnd_unfitted (m : Motion) (z : Nat) (o : Option Port) :
    (m.windowEnd z o).state = .unfitted ↔ m.state = .unfitted := by
  unfold Motion.windowEnd
  dsimp only
  have hc : m.closeWindow.state = m.state := rfl
  unfold Motion.evaluate
  split
  · rw [hc]
  all_goals
    next hm =>
    rw [hc] at hm
    rw [hm]
    refine ⟨fun hx => ?_, fun hx => by cases hx⟩
    revert hx
    first | unfold Motion.decide Motion.quietWindow | unfold Motion.recover
    repeat' split
    all_goals simp_all

/-- The motion record changed with the profile's sensor and the release items standing: the signal of R83
keeps the releases safe. -/
theorem Ev.motionSignal_safe (e : Ev) (m : Motion) (h : e.toBlocks.releaseSafe)
    (hm : m.state = .unfitted ↔ e.motion.state = .unfitted) :
    ((e.setMotion m).motionSignal e.motion.state).toBlocks.releaseSafe := by
  have hf : (e.setMotion m).motion.state = .unfitted ↔ (e.setMotion m).profile.sensor = false := hm.trans h.1
  unfold Ev.motionSignal
  split
  · exact Ev.withdraw_safe _ hf
  · next hn =>
    refine ⟨hf, fun s => ?_⟩
    refine ⟨fun hr => ?_, (h.2 s).2⟩
    rcases (h.2 s).1 hr with ⟨ha, hb⟩ | hb
    · refine .inl ⟨ha, ?_⟩
      have hn' := hn
      rw [not_and] at hn'
      exact Decidable.byContradiction (hn' hb)
    · exact .inr hb

theorem Ev.windowEnd_safe (e : Ev) (h : e.toBlocks.releaseSafe) : e.windowEnd.toBlocks.releaseSafe := by
  unfold Ev.windowEnd
  split
  case isFalse => exact h
  unfold Ev.endWindow
  dsimp only
  have h1 := Ev.motionSignal_safe e (e.motion.windowEnd e.profile.z e.toBlocks.orientation) h
    (Motion.windowEnd_unfitted _ _ _)
  refine SidesKept.safe (e := (e.setMotion (e.motion.windowEnd e.profile.z e.toBlocks.orientation)).motionSignal
    e.motion.state) ?_ h1
  unfold Ev.noteEncoder
  split <;> exact ⟨rfl, rfl, rfl, rfl⟩

theorem Motion.transition_state (m : Motion) (ph : EncPhase) : (m.transition ph).state = m.state := by
  have hf : ∀ n : Motion, (n.follow ph).state = n.state := fun n => by cases ph <;> rfl
  have ha : ∀ c, (m.addCount c).state = m.state := fun c => by unfold Motion.addCount; split <;> rfl
  unfold Motion.transition
  split
  · exact hf m
  all_goals exact (hf _).trans (ha _)

theorem Motion.illegalTransition_state (m : Motion) : m.illegalTransition.state = m.state := by
  unfold Motion.illegalTransition
  dsimp only
  split <;> rfl

theorem Ev.setMotion_safe (e : Ev) (m : Motion) (hm : m.state = e.motion.state) (h : e.toBlocks.releaseSafe) :
    (e.setMotion m).toBlocks.releaseSafe := by
  refine ⟨?_, fun s => ?_⟩
  · show m.state = .unfitted ↔ _
    rw [hm]; exact h.1
  · have := h.2 s
    refine ⟨?_, this.2⟩
    show SideRec.releaseSafe _ _ m.state
    rw [hm]; exact this.1

/-! ## Adoption (R82, R93, R99) -/

theorem SideRec.adopt_flags (r : SideRec) (a b : Nat) :
    (r.adopt a b).release = r.release ∧ (r.adopt a b).closeReq = r.closeReq ∧ (r.adopt a b).basis = r.basis := by
  unfold SideRec.adopt
  split <;> exact ⟨rfl, rfl, rfl⟩

theorem Ev.noteNewForced_sides (ds : List (Fin 4)) (s : Side) (a b : Nat) (e : Ev) :
    SidesKept e (e.noteNewForced s a b ds) := by
  induction ds generalizing e with
  | nil => exact .refl e
  | cons d ds ih =>
    unfold Ev.noteNewForced
    dsimp only
    split
    · exact (Ev.noteForced_sides e s d).trans (ih _)
    · exact ih _

/-- The door counts' adoption keeps the profile, the motion record and each side's release, close request
and basis. -/
theorem Ev.adoptDoors_flags (e : Ev) (b : Blocks) :
    (e.adoptDoors b).profile = e.profile ∧ (e.adoptDoors b).motion = e.motion ∧
      ∀ s, ((e.adoptDoors b).doors.side s).release = (e.doors.side s).release ∧
        ((e.adoptDoors b).doors.side s).closeReq = (e.doors.side s).closeReq ∧
        ((e.adoptDoors b).doors.side s).basis = (e.doors.side s).basis := by
  have key : SidesKept
      (e.setDoors { e.doors with left := e.doors.left.adopt b.profile.doorsLeft e.profile.doorsLeft
                                 right := e.doors.right.adopt b.profile.doorsRight e.profile.doorsRight })
      (e.adoptDoors b) := by
    unfold Ev.adoptDoors
    dsimp only
    refine SidesKept.trans ?_ (Ev.doorsSettled_sides _ _)
    split
    · exact (Ev.noteNewForced_sides _ _ _ _ _).trans (Ev.noteNewForced_sides _ _ _ _ _)
    · exact ((Ev.noteNewForced_sides _ _ _ _ _).trans (Ev.noteNewForced_sides _ _ _ _ _)).trans
        ⟨rfl, rfl, rfl, rfl⟩
  refine ⟨key.profile, key.motion, fun s => ?_⟩
  cases s
  · simp only [Doors.side, key.left]
    exact SideRec.adopt_flags _ _ _
  · simp only [Doors.side, key.right]
    exact SideRec.adopt_flags _ _ _

theorem Motion.adopt_fits (m : Motion) (sensor z : Bool) :
    (m.adopt sensor z).state = .unfitted ↔ sensor = false := by
  unfold Motion.adopt
  split <;> simp_all
  split <;> simp_all

theorem Motion.adopt_stopped {m : Motion} {sensor z : Bool} (h : (m.adopt sensor z).state = .stopped) :
    m.state = .stopped := by
  unfold Motion.adopt at h
  split at h <;> simp_all

theorem Motion.adopt_fitted {m : Motion} {sensor z : Bool} (h : m.state = .unfitted)
    (h' : (m.adopt sensor z).state ≠ .unfitted) : (m.adopt sensor z).state = .unknown := by
  unfold Motion.adopt at *
  split at h' <;> simp_all

end Sys2Proof.Machine
end

