-- ==== Sys2Proof/Laws/Consist.lean ====
section
/-! SUPPORT. The consist record through the operations of the consist block: what each does to the items R20 and R21 speak of, and that the record stays consistent. -/

namespace Sys2Proof.Machine

/-- The items that Consist.wf reads stand. -/
structure CoreKept (c c' : Consist) : Prop where
  role : c'.role = c.role
  table : c'.table = c.table
  cabEnd : c'.cabEnd = c.cabEnd
  sweep : c'.sweep = c.sweep
  carry : c'.carry = c.carry
  pending : c'.pendingTable = c.pendingTable

theorem Consist.wf_congr {c c' : Consist} (h : CoreKept c c') (hw : c.wf) : c'.wf := by
  unfold Consist.wf Consist.roleFits Consist.sweepFits at *
  rw [h.role, h.table, h.cabEnd, h.sweep, h.carry, h.pending]
  exact hw

theorem TrainKept.wf {e e' : Ev} (h : TrainKept e e') (hw : e.consist.wf) : e'.consist.wf := by
  rw [h.consist]; exact hw

/-- A record that is LEAD with its cab at `cab` and carries nothing. -/
structure Consist.leads (c : Consist) (cab : Port) : Prop where
  role : c.role = .lead
  cabEnd : c.cabEnd = some cab
  carry : c.carry = none
  pending : c.pendingTable = none

/-- A live table of the lead. -/
structure LiveTable.ofLead (t : LiveTable) (cab : Port) : Prop where
  pos : t.pos = 1
  low : 1 ≤ t.entries.length
  high : t.entries.length ≤ 32
  toward : t.toward = cab

/-- A sweep state the lead may be in. -/
def SweepState.ofLead : SweepState → Prop
  | .idle => True
  | .resweepWait => True
  | .awaitReturn k => 1 ≤ k ∧ k ≤ 3
  | .carrying => False

theorem Consist.wf_of_lead {c : Consist} {cab : Port} {t : LiveTable} (h : c.leads cab) (ht : c.table = some t)
    (hl : t.ofLead cab) (hs : c.sweep.ofLead) : c.wf := by
  refine ⟨?_, ?_⟩
  · unfold Consist.roleFits
    rw [h.role, ht]
    exact ⟨hl.pos, hl.low, hl.high, by rw [h.cabEnd, hl.toward]⟩
  · unfold Consist.sweepFits
    rw [h.carry, h.pending]
    revert hs
    cases c.sweep with
    | idle => exact fun _ => rfl
    | carrying => exact fun x => x
    | awaitReturn k => exact fun x => ⟨h.role, x.1, x.2, rfl⟩
    | resweepWait => exact fun _ => ⟨h.role, rfl⟩

theorem Consist.wf.lead {c : Consist} (h : c.wf) (hr : c.role = .lead) :
    ∃ t, c.table = some t ∧ t.ofLead t.toward ∧ c.leads t.toward ∧ c.sweep.ofLead := by
  obtain ⟨h1, h2⟩ := h
  unfold Consist.roleFits at h1
  rw [hr] at h1
  cases ht : c.table with
  | none => rw [ht] at h1; exact absurd h1 id
  | some t =>
    rw [ht] at h1
    refine ⟨t, rfl, ⟨h1.1, h1.2.1, h1.2.2.1, rfl⟩, ?_⟩
    unfold Consist.sweepFits at h2
    cases hs : c.sweep with
    | idle =>
      cases hc : c.carry with
      | none => rw [hs, hc] at h2; exact ⟨⟨hr, h1.2.2.2, hc, h2⟩, trivial⟩
      | some k => rw [hs, hc] at h2; exact absurd h2 id
    | carrying =>
      cases hc : c.carry with
      | none => rw [hs, hc] at h2; exact absurd h2 id
      | some k => rw [hs, hc] at h2; exact absurd hr h2.1
    | awaitReturn k =>
      cases hc : c.carry with
      | none => rw [hs, hc] at h2; exact ⟨⟨hr, h1.2.2.2, hc, h2.2.2.2⟩, h2.2.1, h2.2.2.1⟩
      | some k => rw [hs, hc] at h2; exact absurd h2 id
    | resweepWait =>
      cases hc : c.carry with
      | none => rw [hs, hc] at h2; exact ⟨⟨hr, h1.2.2.2, hc, h2.2⟩, trivial⟩
      | some k => rw [hs, hc] at h2; exact absurd h2 id

/-- A record that is not LEAD and carries nothing, once `endCarry` has been applied. -/
theorem Consist.wf.endCarry {c : Consist} (h : c.wf) (hr : c.role ≠ .lead) :
    c.endCarry.carry = none ∧ c.endCarry.pendingTable = none ∧ c.endCarry.sweep = .idle := by
  refine ⟨rfl, rfl, ?_⟩
  obtain ⟨_, h2⟩ := h
  unfold Consist.sweepFits at h2
  show (if c.sweep = .carrying then SweepState.idle else c.sweep) = .idle
  split
  · rfl
  · next hn =>
    cases hs : c.sweep with
    | idle => rfl
    | carrying => exact absurd hs hn
    | awaitReturn k =>
      cases hc : c.carry with
      | none => rw [hs, hc] at h2; exact absurd h2.1 hr
      | some k => rw [hs, hc] at h2; exact absurd h2 id
    | resweepWait =>
      cases hc : c.carry with
      | none => rw [hs, hc] at h2; exact absurd h2.1 hr
      | some k => rw [hs, hc] at h2; exact absurd h2 id

theorem Consist.sweepFits_idle {c : Consist} (h1 : c.sweep = .idle) (h2 : c.carry = none)
    (h3 : c.pendingTable = none) : c.sweepFits := by
  unfold Consist.sweepFits
  rw [h1, h2]
  exact h3

/-- Ending the carry of a record that is not LEAD. -/
theorem Consist.endCarry_wf {c : Consist} (h : c.wf) (hr : c.role ≠ .lead) : c.endCarry.wf := by
  obtain ⟨h1, h2, h3⟩ := h.endCarry hr
  refine ⟨h.1, ?_⟩
  unfold Consist.sweepFits
  rw [h1, h3]
  exact h2

/-! ## Beacons, installs, ends of a sweep -/

theorem Ev.startBeacons_core (e : Ev) : CoreKept e.consist e.startBeacons.consist := by
  unfold Ev.startBeacons
  rw [Ev.sendBeacon_consist]
  exact ⟨rfl, rfl, rfl, rfl, rfl, rfl⟩

/-- What an install at the lead does to the consist record. -/
theorem Ev.installLead_consist (e : Ev) (cab : Port) (xs : List SweepEntry) :
    (e.installLead cab xs).consist =
      { e.consist with
        table := some { entries := xs, pos := 1, gen := nextNumber e.consist.lastGen
                        leadId := e.profile.identity, toward := cab }
        lastGen := nextNumber e.consist.lastGen } := rfl

/-- What the end of a sweep does to the consist record. -/
theorem Ev.endSweep_consist (e : Ev) (o : SweepOutcome) :
    (e.endSweep o).consist =
      { e.consist with returnT := .stopped, sweep := .idle, outcome := o, sweepSlot := none } :=
  (TrainKept.complete _ _ _ _ _).consist

/-- An install at the lead that ends a sweep leaves a lead with its sweep at rest. -/
theorem Ev.installEnd_wf (e : Ev) (cab : Port) (xs : List SweepEntry) (o : SweepOutcome)
    (h : e.consist.leads cab) (h1 : 1 ≤ xs.length) (h2 : xs.length ≤ 32) :
    ((e.installLead cab xs).endSweep o).consist.wf := by
  rw [Ev.endSweep_consist, Ev.installLead_consist]
  exact Consist.wf_of_lead (cab := cab) ⟨h.role, h.cabEnd, h.carry, h.pending⟩ rfl ⟨rfl, h1, h2, rfl⟩ trivial

theorem Ev.formAlone_wf (e : Ev) (cab : Port) (h : e.consist.leads cab) : (e.formAlone cab).consist.wf :=
  Consist.wf_congr (Ev.startBeacons_core _)
    ((Ev.noteInstalled_kept _).wf (Ev.installEnd_wf e cab _ _ h (by simp) (by simp)))

theorem Ev.beginAttempt_wf (e : Ev) (cab : Port) (k : Nat) (t : LiveTable) (h : e.consist.leads cab)
    (ht : e.consist.table = some t) (hl : t.ofLead cab) (h1 : 1 ≤ k) (h2 : k ≤ 3) :
    (e.beginAttempt cab k).consist.wf := by
  unfold Ev.beginAttempt
  dsimp only
  split
  · refine (Ev.sendFamily_kept _ _ _ _).wf ?_
    exact Consist.wf_of_lead (cab := cab) (t := t) ⟨h.role, h.cabEnd, h.carry, h.pending⟩ ht hl ⟨h1, h2⟩
  · exact Ev.formAlone_wf _ cab ⟨h.role, h.cabEnd, h.carry, h.pending⟩

theorem Ev.failSweep_wf (e : Ev) (cab : Port) (w : FailReason) (pos : Nat) (h : e.consist.leads cab) :
    (e.failSweep cab w pos).consist.wf := by
  unfold Ev.failSweep
  dsimp only
  refine Consist.wf_congr (Ev.startBeacons_core _) ((Ev.noteInstalled_kept _).wf
    ((TrainKept.notice _ _ _ _).wf (Ev.installEnd_wf _ cab _ _ ?_ (by simp) (by simp))))
  have hk : (e.sendDissolve (portOther cab)).consist = e.consist := (Ev.sendFamily_kept e _ _ _).consist
  rw [hk]
  exact h

theorem Ev.retryOrFail_wf (e : Ev) (cab : Port) (k : Nat) (w : FailReason) (pos : Nat) (t : LiveTable)
    (h : e.consist.leads cab) (ht : e.consist.table = some t) (hl : t.ofLead cab) :
    (e.retryOrFail cab k w pos).consist.wf := by
  unfold Ev.retryOrFail
  split
  · exact Ev.beginAttempt_wf e cab _ t h ht hl (by omega) (by omega)
  · exact Ev.failSweep_wf e cab w pos h

theorem Ev.askResweep_wf (e : Ev) (hr : e.consist.role = .lead) (h : e.consist.wf) :
    e.askResweep.consist.wf := by
  unfold Ev.askResweep
  split
  · obtain ⟨t, ht, hl, hc, _⟩ := h.lead hr
    exact Consist.wf_of_lead ⟨hc.role, hc.cabEnd, hc.carry, hc.pending⟩ ht hl trivial
  all_goals exact h

theorem Ev.join_wf (e : Ev) (w : JoinReason) (h : e.consist.wf) : (e.join w).consist.wf := by
  unfold Ev.join
  split
  · exact h
  · next hr => exact Ev.askResweep_wf e hr h
  · exact (Ev.originate_kept e _ _).wf h

theorem Ev.endCarry_wf (e : Ev) (h : e.consist.wf) (hr : e.consist.role ≠ .lead) : e.endCarry.consist.wf :=
  Consist.wf_congr (c := e.consist.endCarry) ⟨rfl, rfl, rfl, rfl, rfl, rfl⟩ (Consist.endCarry_wf h hr)

/-- A car that carries a sweep is not LEAD. -/
theorem Consist.wf.carrying {c : Consist} {k : Carry} (h : c.wf) (hk : c.carry = some k) :
    c.role ≠ .lead ∧ c.sweep = .carrying ∧ 2 ≤ k.pos ∧ k.pos ≤ 32 ∧
      ∀ xs, c.pendingTable = some xs → k.pos ≤ xs.length ∧ xs.length ≤ 32 := by
  obtain ⟨_, h2⟩ := h
  unfold Consist.sweepFits at h2
  rw [hk] at h2
  revert h2
  cases c.sweep with
  | carrying => exact fun x => ⟨x.1, rfl, x.2⟩
  | idle => exact fun x => absurd x id
  | awaitReturn k => exact fun x => absurd x id
  | resweepWait => exact fun x => absurd x id

/-- A FOLLOWER has a table and no cab. -/
theorem Consist.wf.cab {c : Consist} (h : c.wf) (hr : c.role ≠ .lead) : c.cabEnd = none := by
  have h1 := h.1
  unfold Consist.roleFits at h1
  cases hro : c.role with
  | lead => exact absurd hro hr
  | alone =>
    cases ht : c.table with
    | none => rw [hro, ht] at h1; exact h1
    | some t => rw [hro, ht] at h1; exact absurd h1 id
  | follower =>
    cases ht : c.table with
    | none => rw [hro, ht] at h1; exact absurd h1 id
    | some t => rw [hro, ht] at h1; exact h1.2.2.2

/-- The record of an ALONE car at rest. -/
theorem Consist.wf_alone {c : Consist} (h1 : c.role = .alone) (h2 : c.table = none) (h3 : c.cabEnd = none)
    (h4 : c.sweep = .idle) (h5 : c.carry = none) (h6 : c.pendingTable = none) : c.wf := by
  refine ⟨?_, ?_⟩
  · unfold Consist.roleFits; rw [h1, h2]; exact h3
  · unfold Consist.sweepFits; rw [h4, h5]; exact h6

theorem Ev.loseTable_wf (e : Ev) (w : LossReason) (t : LiveTable) (h : e.consist.wf)
    (hr : e.consist.role ≠ .lead) : (e.loseTable w t).consist.wf := by
  obtain ⟨h1, h2, h3⟩ := h.endCarry hr
  exact Consist.wf_alone (c := { e.consist.endCarry with table := none, role := .alone, watchT := .stopped })
    rfl rfl (h.cab hr) h3 h1 h2

theorem Ev.leaveLead_wf (e : Ev) (h : e.consist.wf) (hr : e.consist.role = .lead) : e.leaveLead.consist.wf := by
  obtain ⟨t, _, _, hc, _⟩ := h.lead hr
  exact Consist.wf_alone rfl rfl rfl rfl hc.carry hc.pending

/-! ## Reports of the ports -/

theorem Ev.carryPortLost_wf (e : Ev) (p : Port) (h : e.consist.wf) : (e.carryPortLost p).consist.wf := by
  unfold Ev.carryPortLost
  split
  · exact h
  · next c hc =>
    have hr := (h.carrying hc).1
    split
    · exact Ev.endCarry_wf e h hr
    · split
      · exact h
      · have hk := Ev.sendFamily_kept e c.port .sweepFail
          (failPayload { leadId := c.leadId, number := c.number, reason := byte (failReasonNum .linkLost)
                         pos := byte c.pos })
        exact Ev.endCarry_wf _ (hk.wf h) (by rw [show (e.sendFail c.port c.leadId c.number .linkLost c.pos).consist = e.consist from hk.consist]; exact hr)

theorem Ev.tablePortLost_wf (e : Ev) (p : Port) (h : e.consist.wf) : (e.tablePortLost p).consist.wf := by
  unfold Ev.tablePortLost
  split
  · next t hr ht =>
    split
    · have hk := (Ev.sendFamily_kept e t.away .dissolve [e.liveGen])
      exact Ev.loseTable_wf _ _ t (hk.wf h)
        (by rw [show (e.sendDissolve t.away).consist = e.consist from hk.consist, hr]; decide)
    · split
      · exact (Ev.sendBreak_kept e).wf h
      · exact h
  · next t hr ht =>
    obtain ⟨t', ht', hl, hc, _⟩ := h.lead hr
    rw [ht] at ht'
    cases ht'
    split
    · exact h
    · split
      · exact Ev.retryOrFail_wf e _ _ _ _ t hc ht hl
      all_goals
        split
        · exact Ev.askResweep_wf e hr h
        · exact h
  all_goals exact h

theorem Ev.consistPortLost_wf (e : Ev) (p : Port) (h : e.consist.wf) : (e.consistPortLost p).consist.wf :=
  Ev.tablePortLost_wf _ p (Ev.carryPortLost_wf e p h)

theorem Ev.consistPortUp_wf (e : Ev) (p : Port) (h : e.consist.wf) : (e.consistPortUp p).consist.wf := by
  unfold Ev.consistPortUp
  split
  · exact h
  · split
    · exact Ev.join_wf e _ h
    · split
      · exact h
      · exact h

/-! ## Commands -/

/-- SET_CAB's activation. -/
theorem Ev.activate_wf (e : Ev) (p : Port) (h : e.consist.wf) (hr : e.consist.role ≠ .lead) :
    (e.activate p).consist.wf := by
  obtain ⟨h1, h2, h3⟩ := h.endCarry hr
  unfold Ev.activate
  dsimp only
  have hk := (Ev.noteInstalled_kept ((e.setConsist { e.consist.endCarry with cabEnd := some p, role := .lead
                                                                             watchT := .stopped }).installLead p
    [e.toBlocks.ownEntry p])).trans (.publishNow _ .consist)
  have hc := hk.consist
  rw [Ev.installLead_consist] at hc
  split
  · refine Ev.beginAttempt_wf _ p 1 _ ?_ (by rw [hc]) ⟨rfl, by simp, by simp, rfl⟩ (by omega) (by omega)
    rw [hc]; exact ⟨rfl, rfl, h1, h2⟩
  · refine Consist.wf_congr (Ev.startBeacons_core _) ?_
    rw [hc]
    refine Consist.wf_of_lead (cab := p)
      (t := { entries := [e.toBlocks.ownEntry p], pos := 1, gen := nextNumber e.consist.lastGen
              leadId := e.profile.identity, toward := p })
      ⟨rfl, rfl, h1, h2⟩ rfl ⟨rfl, ?_, ?_, rfl⟩ ?_
    · simp
    · simp
    · show e.consist.endCarry.sweep.ofLead
      rw [h3]; trivial

theorem Consist.wf.notLead {c : Consist} (h : c.wf) (hc : c.cabEnd = none) : c.role ≠ .lead := by
  intro hr
  obtain ⟨t, _, _, hl, _⟩ := h.lead hr
  rw [hl.cabEnd] at hc
  exact absurd hc (by simp)

theorem Ev.stopSweep_lead (e : Ev) (w : FailReason) (h : e.consist.wf) (hr : e.consist.role = .lead) :
    (e.stopSweep w).consist.wf ∧ (e.stopSweep w).consist.role = .lead := by
  obtain ⟨t, ht, hl, hc, _⟩ := h.lead hr
  unfold Ev.stopSweep
  split
  · rw [Ev.endSweep_consist]
    exact ⟨Consist.wf_of_lead ⟨hc.role, hc.cabEnd, hc.carry, hc.pending⟩ ht hl trivial, hr⟩
  all_goals exact ⟨h, hr⟩

theorem Ev.deactivate_wf (e : Ev) (h : e.consist.wf) : e.deactivate.consist.wf := by
  unfold Ev.deactivate
  split
  · next c t hc ht =>
    have hr : e.consist.role = .lead := Decidable.byContradiction fun hn => by
      rw [h.cab hn] at hc; exact absurd hc (by simp)
    have hk := Ev.sendFamily_kept e (portOther c) .dissolve [e.liveGen]
    have hs := Ev.stopSweep_lead (e.sendDissolve (portOther c)) .deactivated (hk.wf h)
      (by rw [show (e.sendDissolve (portOther c)).consist = e.consist from hk.consist]; exact hr)
    exact (Ev.noteLost_kept _ _ _).wf (Ev.leaveLead_wf _ hs.1 hs.2)
  · exact h

theorem Ev.setCab_wf (e : Ev) (x : Byte) (h : e.consist.wf) : (e.setCab x).1.consist.wf := by
  unfold Ev.setCab
  split
  · exact Ev.deactivate_wf e h
  · split
    · unfold Ev.activateCab
      split
      · exact h
      · split
        · exact h
        · split
          · exact h
          · split
            · exact h
            · split
              · exact h
              · next hn => exact Ev.activate_wf e _ h (h.notLead (Decidable.not_not.mp hn))
    · exact h

theorem Ev.startSweep_wf (e : Ev) (n : Fin 16) (h : e.consist.wf) : (e.startSweep n).1.consist.wf := by
  unfold Ev.startSweep
  split
  · next t hr ht =>
    obtain ⟨t', ht', hl, hc, _⟩ := h.lead hr
    rw [ht] at ht'
    cases ht'
    split
    · exact h
    all_goals
      exact Ev.beginAttempt_wf _ _ 1 t ⟨hc.role, hc.cabEnd, hc.carry, hc.pending⟩ ht hl (by omega) (by omega)
  · exact h

theorem Ev.abandonSweep_wf (e : Ev) (x : Ev × Word) (hx : e.abandonSweep = some x) (h : e.consist.wf) :
    x.1.consist.wf := by
  unfold Ev.abandonSweep at hx
  split at hx
  · next k hs =>
    cases hx
    have hr : e.consist.role = .lead := by
      have h2 := h.2
      unfold Consist.sweepFits at h2
      rw [hs] at h2
      cases hc : e.consist.carry with
      | none => rw [hc] at h2; exact h2.1
      | some k => rw [hc] at h2; exact absurd h2 id
    obtain ⟨t, ht, hl, hc, _⟩ := h.lead hr
    exact Consist.wf_congr (Ev.startBeacons_core _)
      (Consist.wf_of_lead ⟨hc.role, hc.cabEnd, hc.carry, hc.pending⟩ ht hl trivial)
  all_goals exact absurd hx (by simp)

/-! ## Sweep family -/

theorem Ev.takeUpSweep_wf (e : Ev) (p : Port) (b : SweepBody) (h : e.consist.wf) (hr : e.consist.role ≠ .lead)
    (h1 : 1 ≤ b.entries.length) (h2 : b.entries.length < 32) : (e.takeUpSweep p b).consist.wf := by
  have hb : ∀ x : Option (List SweepEntry), (∀ xs, x = some xs → xs.length = b.entries.length + 1) →
      Consist.wf { e.consist with
        sweep := .carrying
        carry := some { leadId := b.leadId, number := b.number, port := p, pos := b.entries.length + 1 }
        pendingTable := x, carryT := e.timerNow, watchT := .stopped } := by
    intro x hx
    refine ⟨h.1, hr, by simp; omega, by simp; omega, fun xs hxs => ?_⟩
    rw [hx xs hxs]
    exact ⟨by simp, by omega⟩
  unfold Ev.takeUpSweep
  dsimp only
  split
  · exact (Ev.sendFamily_kept _ _ _ _).wf (hb none (fun _ hx => absurd hx (by simp)))
  · refine (Ev.sendFamily_kept _ _ _ _).wf (hb (some _) (fun xs hxs => ?_))
    cases hxs
    simp

theorem Ev.validateSweep_wf (e : Ev) (p : Port) (b : SweepBody) (h : e.consist.wf)
    (hr : e.consist.role ≠ .lead) : (e.validateSweep p b).consist.wf := by
  unfold Ev.validateSweep
  split
  · exact (Ev.sendFamily_kept e _ _ _).wf h
  · next hf =>
    unfold sweepFault at hf
    split at hf
    · exact absurd hf (by simp)
    · next hlen =>
      refine Ev.takeUpSweep_wf e p b h hr ?_ (by omega)
      cases hb : b.entries with
      | nil => rw [hb] at hf; exact absurd hf (by simp)
      | cons x xs => simp

/-- After the contest is lost the car is bound to no lead. -/
theorem Ev.abandonLead_wf (e : Ev) (y : Ident) (h : e.consist.wf) :
    (e.abandonLead y).consist.wf ∧ (e.abandonLead y).consist.role ≠ .lead := by
  unfold Ev.abandonLead
  split
  · next hr =>
    have hs := Ev.stopSweep_lead e .contestLost h hr
    exact ⟨Ev.leaveLead_wf _ hs.1 hs.2, fun x => absurd x (by decide : Role.alone ≠ .lead)⟩
  · next t hr _ =>
    exact ⟨Ev.loseTable_wf e _ t h (by rw [hr]; decide), fun x => absurd x (by decide : Role.alone ≠ .lead)⟩
  · next hr _ =>
    exact ⟨Ev.endCarry_wf e h (by rw [hr]; decide), by rw [show e.endCarry.consist.role = e.consist.role from rfl, hr]; decide⟩
  · next hr =>
    exact ⟨Ev.endCarry_wf e h (by rw [hr]; decide), by rw [show e.endCarry.consist.role = e.consist.role from rfl, hr]; decide⟩

/-- A LEAD never lets a SWEEP pass without abandoning its lead (R40). -/
theorem contestOf_passes {c : Consist} {own y : Ident} {n : Byte} (h : c.wf) (hp : contestOf c own y n = .passes) :
    c.role ≠ .lead := by
  intro hr
  obtain ⟨_, _, _, hc, _⟩ := h.lead hr
  unfold contestOf at hp
  rw [hc.carry, hr] at hp
  dsimp only at hp
  split at hp
  · exact absurd hp (by decide)
  · split at hp <;> exact absurd hp (by decide)

theorem Ev.takeSweep_wf (e : Ev) (p : Port) (b : SweepBody) (h : e.consist.wf) : (e.takeSweep p b).consist.wf := by
  unfold Ev.takeSweep
  split
  · exact h
  · next hp => exact Ev.validateSweep_wf e p b h (contestOf_passes h hp)
  · have := Ev.abandonLead_wf e b.leadId h
    exact Ev.validateSweep_wf _ p b this.1 this.2

theorem returnOk_length {own : Ident} {cab : Port} {lp : LinkPort} {xs : List SweepEntry}
    (h : returnOk own cab lp xs = true) : 1 ≤ xs.length ∧ xs.length ≤ 32 := by
  unfold returnOk at h
  split at h
  · simp only [Bool.and_eq_true, decide_eq_true_eq] at h
    exact ⟨by simp, h.1.1.1.1.1⟩
  · exact absurd h (by simp)

theorem Ev.completeSweep_wf (e : Ev) (cab : Port) (b : SweepBody) (h : e.consist.leads cab)
    (h1 : 1 ≤ b.entries.length) (h2 : b.entries.length ≤ 32) : (e.completeSweep cab b).consist.wf := by
  unfold Ev.completeSweep
  dsimp only
  refine Consist.wf_congr (Ev.startBeacons_core _) ((Ev.noteInstalled_kept _).wf
    ((TrainKept.publishNow _ _).wf ?_))
  rw [Ev.endSweep_consist]
  rw [(Ev.sendFamily_kept _ _ _ _).consist, Ev.installLead_consist]
  exact Consist.wf_of_lead (cab := cab) ⟨h.role, h.cabEnd, h.carry, h.pending⟩ rfl ⟨rfl, h1, h2, rfl⟩ trivial

theorem Ev.takeReturn_wf (e : Ev) (p : Port) (b : SweepBody) (h : e.consist.wf) (hb : b.entries.length ≤ 32) :
    (e.takeReturn p b).consist.wf := by
  unfold Ev.takeReturn
  split
  · next t c hr ht =>
    obtain ⟨t', ht', hl, hc, _⟩ := h.lead hr
    rw [ht] at ht'
    cases ht'
    unfold Ev.leadReturn
    split
    · split
      · split
        · next ho =>
          have := returnOk_length ho
          exact Ev.completeSweep_wf e _ b hc this.1 this.2
        · exact Ev.failSweep_wf e _ _ _ hc
      · exact h
    all_goals exact h
  · next c hc _ =>
    have hk := h.carrying hc
    unfold Ev.carryReturn
    split
    · split
      · next x hx =>
        split
        · refine (Ev.sendFamily_kept _ _ _ _).wf ?_
          refine ⟨h.1, ?_⟩
          show match e.consist.sweep, e.consist.carry with
            | .carrying, some k => e.consist.role ≠ .lead ∧ 2 ≤ k.pos ∧ k.pos ≤ 32 ∧
                ∀ xs, some b.entries = some xs → k.pos ≤ xs.length ∧ xs.length ≤ 32
            | .idle, none => some b.entries = none
            | .awaitReturn k, none => e.consist.role = .lead ∧ 1 ≤ k ∧ k ≤ 3 ∧ some b.entries = none
            | .resweepWait, none => e.consist.role = .lead ∧ some b.entries = none
            | _, _ => False
          rw [hk.2.1, hc]
          refine ⟨hk.1, hk.2.2.1, hk.2.2.2.1, fun xs hxs => ?_⟩
          cases hxs
          have := (List.getElem?_eq_some_iff.mp hx).1
          exact ⟨by omega, hb⟩
        · exact (Ev.sendFamily_kept e _ _ _).wf h
      · exact (Ev.sendFamily_kept e _ _ _).wf h
    · exact h
  · exact h

theorem Ev.takeSweepFail_wf (e : Ev) (p : Port) (b : FailBody) (h : e.consist.wf) :
    (e.takeSweepFail p b).consist.wf := by
  unfold Ev.takeSweepFail
  split
  · next t hr ht =>
    obtain ⟨t', ht', hl, hc, _⟩ := h.lead hr
    rw [ht] at ht'
    cases ht'
    unfold Ev.leadFail
    split
    · split
      · split
        · exact Ev.failSweep_wf e _ _ _ hc
        · exact Ev.failSweep_wf e _ _ _ hc
        · exact Ev.retryOrFail_wf e _ _ _ _ t hc ht hl
        · exact h
      · exact h
    all_goals exact h
  · next c hc _ =>
    split
    · have hk := Ev.sendFamily_kept e c.port .sweepFail (failPayload b)
      exact Ev.endCarry_wf _ (hk.wf h) (by rw [hk.consist]; exact (h.carrying hc).1)
    · exact h
  · exact h

theorem Ev.installFollower_wf (e : Ev) (c : Carry) (xs : List SweepEntry) (b : ConfirmBody) (h : e.consist.wf)
    (hc : e.consist.carry = some c) (hx : e.consist.pendingTable = some xs) :
    (e.installFollower c xs b).consist.wf := by
  have hk := h.carrying hc
  obtain ⟨h1, h2, h3⟩ := h.endCarry hk.1
  have hp := hk.2.2.2.2 xs hx
  unfold Ev.installFollower
  dsimp only
  have base : ∀ t : LiveTable, t.pos = c.pos → t.entries = xs →
      Consist.wf { e.consist.endCarry with table := some t, lastGen := b.gen, role := .follower
                                           watchT := e.timerNow } := by
    intro t ht1 ht2
    refine ⟨⟨by rw [ht1]; exact hk.2.2.1, by rw [ht1, ht2]; exact hp.1, by rw [ht2]; exact hp.2,
      h.cab hk.1⟩, ?_⟩
    exact Consist.sweepFits_idle h3 h1 h2
  have hi : ∀ (e' : Ev) (t : LiveTable), e'.consist.wf → (e'.installChecks t).consist.wf := by
    intro e' t h'
    unfold Ev.installChecks
    split
    · split
      · exact h'
      · exact (Ev.sendBreak_kept e').wf h'
    · split
      · exact Ev.join_wf e' _ h'
      · exact h'
  refine hi _ _ ((Ev.noteInstalled_kept _).wf ?_)
  split
  · exact (Ev.sendFamily_kept _ _ _ _).wf (base _ rfl rfl)
  · exact base _ rfl rfl

theorem Ev.takeConfirm_wf (e : Ev) (p : Port) (b : ConfirmBody) (h : e.consist.wf) :
    (e.takeConfirm p b).consist.wf := by
  unfold Ev.takeConfirm
  split
  · next c xs hc hx =>
    split
    · exact Ev.installFollower_wf e c xs b h hc hx
    · exact h
  · exact h

theorem Ev.takeDissolve_wf (e : Ev) (p : Port) (g : Byte) (h : e.consist.wf) :
    (e.takeDissolve p g).consist.wf := by
  unfold Ev.takeDissolve
  split
  · next t hr ht =>
    split
    · split
      · have hk := Ev.sendFamily_kept e t.away .dissolve [e.liveGen]
        exact Ev.loseTable_wf _ _ t (hk.wf h)
          (by rw [show (e.sendDissolve t.away).consist = e.consist from hk.consist, hr]; decide)
      · exact Ev.loseTable_wf _ _ t h (by rw [hr]; decide)
    · exact h
  · exact h

theorem Ev.takeBeacon_wf (e : Ev) (b : BeaconBody) (h : e.consist.wf) : (e.takeBeacon b).consist.wf := by
  have h1 : (e.acceptBeacon b).consist.wf := by
    unfold Ev.acceptBeacon
    dsimp only
    split
    · next t hr ht =>
      have h2 := h.1
      unfold Consist.roleFits at h2
      rw [hr, ht] at h2
      refine ⟨?_, h.2⟩
      unfold Consist.roleFits
      show match e.consist.role, some { t with leadId := b.leadId } with
        | .alone, none => _
        | .follower, some t => _
        | .lead, some t => _
        | _, _ => False
      rw [hr]
      exact h2
    · exact h
  unfold Ev.takeBeacon
  dsimp only
  refine (Ev.monitorBeacon_kept _).wf ?_
  split
  · exact (Ev.summaryBeacon_kept _ _).wf h1
  · exact (Ev.demandBeacon_kept _ _).wf ((Ev.summaryBeacon_kept _ _).wf h1)

theorem Ev.takeReport_wf (e : Ev) (h : e.consist.wf) : e.takeReport.consist.wf := by
  unfold Ev.takeReport
  split
  · next hr => exact Ev.askResweep_wf e hr h
  · exact h

/-! ## Timers -/

theorem Ev.returnExpiry_wf (e : Ev) (h : e.consist.wf) : e.returnExpiry.consist.wf := by
  unfold Ev.returnExpiry
  split
  · next k t _ hs ht =>
    have hr : e.consist.role = .lead := by
      have h2 := h.2
      unfold Consist.sweepFits at h2
      rw [hs] at h2
      cases hc : e.consist.carry with
      | none => rw [hc] at h2; exact h2.1
      | some k => rw [hc] at h2; exact absurd h2 id
    obtain ⟨t', ht', hl, hc, _⟩ := h.lead hr
    rw [ht] at ht'
    cases ht'
    exact Ev.retryOrFail_wf e _ _ _ _ t hc ht hl
  · exact h

theorem Ev.carryExpiry_wf (e : Ev) (h : e.consist.wf) : e.carryExpiry.consist.wf := by
  unfold Ev.carryExpiry
  split
  · by_cases hr : e.consist.role = .lead
    · obtain ⟨t, ht, hl, hc, hs⟩ := h.lead hr
      refine Consist.wf_of_lead (t := t) ⟨hc.role, hc.cabEnd, rfl, rfl⟩ ht hl ?_
      show (if e.consist.sweep = .carrying then SweepState.idle else e.consist.sweep).ofLead
      split
      · trivial
      · exact hs
    · exact Ev.endCarry_wf e h hr
  · exact h

theorem Ev.settleExpiry_wf (e : Ev) (h : e.consist.wf) : e.settleExpiry.consist.wf := by
  unfold Ev.settleExpiry
  split
  · next t _ hs ht =>
    have hr : e.consist.role = .lead := by
      have h2 := h.2
      unfold Consist.sweepFits at h2
      rw [hs] at h2
      cases hc : e.consist.carry with
      | none => rw [hc] at h2; exact h2.1
      | some k => rw [hc] at h2; exact absurd h2 id
    obtain ⟨t', ht', hl, hc, _⟩ := h.lead hr
    rw [ht] at ht'
    cases ht'
    exact Ev.beginAttempt_wf e _ 1 t hc ht hl (by omega) (by omega)
  · exact h

theorem Ev.beaconExpiry_wf (e : Ev) (h : e.consist.wf) : e.beaconExpiry.consist.wf := by
  unfold Ev.beaconExpiry
  split
  · exact Consist.wf_congr (Ev.startBeacons_core e) h
  · exact h

theorem Ev.watchExpiry_wf (e : Ev) (h : e.consist.wf) : e.watchExpiry.consist.wf := by
  unfold Ev.watchExpiry
  split
  · next t _ hr ht => exact Ev.loseTable_wf e _ t h (by rw [hr]; decide)
  · exact h

end Sys2Proof.Machine
end

