-- ==== Sys2Proof/Laws/Events.lean ====
section
/-! SUPPORT. From the events of the blocks to commands: a property of the blocks that every event keeps is kept by every command, and what every command does to the queue bounds and the host's memory. -/

namespace Sys2Proof.Machine

/-- A property of the blocks that every event keeps. -/
structure EventsKeep (P : Blocks → Prop) : Prop where
  reset : ∀ b, P b → P (Ev.start b.afterReset).release.toBlocks
  detach : ∀ b, P b → P b.detach
  dispatch : ∀ (e : Ev) h n c, P e.toBlocks → P (e.dispatch h n c).1.toBlocks
  abandonSweep : ∀ (e : Ev) x, e.abandonSweep = some x → P e.toBlocks → P x.1.toBlocks
  abandonSend : ∀ (e : Ev) seq x, e.abandonSend seq = some x → P e.toBlocks → P x.1.toBlocks
  markDue : ∀ (e : Ev) p, P e.toBlocks → P (e.markDue p).toBlocks
  frameEnd : ∀ (e : Ev) p, P e.toBlocks → P (e.frameEnd p).toBlocks
  markReceived : ∀ (e : Ev) p i x, P e.toBlocks → P (e.markReceived p i x).toBlocks
  frameError : ∀ (e : Ev) p, P e.toBlocks → P (e.frameError p).toBlocks
  silenceExpiry : ∀ (e : Ev) p, P e.toBlocks → P (e.silenceExpiry p).toBlocks
  windowsEnd : ∀ e : Ev, P e.toBlocks → P e.windowsEnd.toBlocks
  arrive : ∀ (e : Ev) p t, P e.toBlocks → P (e.arrive p t).toBlocks
  returnExpiry : ∀ e : Ev, P e.toBlocks → P e.returnExpiry.toBlocks
  carryExpiry : ∀ e : Ev, P e.toBlocks → P e.carryExpiry.toBlocks
  beaconExpiry : ∀ e : Ev, P e.toBlocks → P e.beaconExpiry.toBlocks
  watchExpiry : ∀ e : Ev, P e.toBlocks → P e.watchExpiry.toBlocks
  settleExpiry : ∀ e : Ev, P e.toBlocks → P e.settleExpiry.toBlocks
  ageExpiry : ∀ e : Ev, P e.toBlocks → P e.ageExpiry.toBlocks
  transition : ∀ (e : Ev) ph, P e.toBlocks → P (e.setMotion (e.motion.transition ph)).toBlocks
  illegal : ∀ e : Ev, P e.toBlocks → P (e.setMotion e.motion.illegalTransition).toBlocks
  windowEnd : ∀ e : Ev, P e.toBlocks → P e.windowEnd.toBlocks
  contactMakes : ∀ (e : Ev) s d, P e.toBlocks → P (e.contactMakes s d).toBlocks
  contactOpens : ∀ (e : Ev) s d, P e.toBlocks → P (e.contactOpens s d).toBlocks
  tickAll : ∀ e : Ev, P e.toBlocks → P e.tickAll.toBlocks
  closeLimit : ∀ (e : Ev) s d, P e.toBlocks → P (e.closeLimit s d).toBlocks
  grantExpiry : ∀ e : Ev, P e.toBlocks → P e.grantExpiry.toBlocks
  cycleStart : ∀ e : Ev, P e.toBlocks → P e.cycleStart.toBlocks
  refComplete : ∀ (e : Ev) tb, P e.toBlocks → P (e.refComplete tb).toBlocks
  refAbort : ∀ e : Ev, P e.toBlocks → P e.refAbort.toBlocks
  senseResult : ∀ (e : Ev) x, P e.toBlocks → P (e.senseResult x).toBlocks
  periodExpiry : ∀ e : Ev, P e.toBlocks → P e.periodExpiry.toBlocks
  scanDone : ∀ (e : Ev) a b c d, P e.toBlocks → P (e.scanDone a b c d).toBlocks

/-! ## Slots -/

/-- A property of the blocks kept by taking a command and by abandons is kept by a visit. -/
theorem State.visit_blk {P : Blocks → Prop} (hk : EventsKeep P) (s : State) (n : Fin 16) (r : Request)
    (len : Nat) (body : List Byte) (h : P s.blk) : P (s.visit n r len body).blk := by
  unfold State.visit
  dsimp only
  split
  · split <;> exact h
  · split
    · unfold State.takeSlot
      split
      · exact h
      · exact hk.dispatch (Ev.start s.blk) _ _ _ h
    · exact h
  · split
    · unfold State.abandonSlot
      split
      · split
        · next e d2 he => exact hk.abandonSweep (Ev.start s.blk) _ he h
        · exact h
      · split
        · next e sent he => exact hk.abandonSend (Ev.start s.blk) _ _ he h
        · exact h
      · exact h
      · exact h
    · exact h

theorem State.command_blk {P : Blocks → Prop} (hk : EventsKeep P) (s : State) (n : Fin 16) (tag : Byte)
    (kind : Nat) (body : List Byte) (h : P s.blk) : P (s.command n tag kind body).blk := by
  unfold State.command
  dsimp only
  split
  · exact State.visit_blk hk _ _ _ _ _ h
  · exact h

theorem State.abandon_blk {P : Blocks → Prop} (hk : EventsKeep P) (s : State) (n : Fin 16) (tag : Byte)
    (h : P s.blk) : P (s.abandon n tag).blk := by
  unfold State.abandon
  dsimp only
  split
  · exact State.visit_blk hk _ _ _ _ _ h
  · exact h

theorem State.scanPass_blk {P : Blocks → Prop} (hk : EventsKeep P) (s : State) (h : P s.blk) :
    P s.scanPass.blk := by
  have hf : ∀ (ns : List (Fin 16)) (s : State), P s.blk → P (ns.foldl State.visitSlot s).blk := by
    intro ns
    induction ns with
    | nil => exact fun _ h => h
    | cons n ns ih => exact fun s h => ih _ (State.visit_blk hk s n _ _ _ h)
  unfold State.scanPass
  split
  · exact hf _ s h
  · exact h

theorem State.regWrite_blk {P : Blocks → Prop} (hk : EventsKeep P) (s : State) (n : Nat) (w : Word)
    (h : P s.blk) : P (s.regWrite n w).blk := by
  unfold State.regWrite
  split
  · unfold State.writeControl
    split
    · exact hk.detach _ h
    · exact h
  all_goals exact h

theorem State.busWrite_blk (s : State) (a : Nat) (w : Word) : (s.busWrite a w).blk = s.blk := by
  unfold State.busWrite
  dsimp only
  split
  · split <;> rfl
  · rfl

/-- Every command keeps what every event keeps. -/
theorem exec_keeps {P : Blocks → Prop} (hk : EventsKeep P) (c : Instr) (s t : State)
    (ht : exec c s = .next t) (h : P s.blk) : P t.blk := by
  have hb : ∀ a w, P (s.busWrite a w).blk := fun a w => by rw [State.busWrite_blk]; exact h
  have hr : ∀ m, P (s.resetWith m).blk := fun m => hk.reset _ h
  cases c <;> (injection ht with ht; subst ht)
  · exact hr _
  · exact hr _
  · exact State.regWrite_blk hk s _ _ h
  · exact State.regWrite_blk hk s _ _ h
  · exact State.regWrite_blk hk s _ _ h
  · exact State.regWrite_blk hk s _ _ h
  · exact State.regWrite_blk hk s _ _ h
  · exact State.regWrite_blk hk s _ _ h
  · exact hb _ _
  · exact hb _ _
  · exact hb _ _
  · exact hb _ _
  · exact State.scanPass_blk hk s h
  · exact State.command_blk hk s _ _ _ _ h
  · exact State.command_blk hk s _ _ _ _ h
  · exact State.command_blk hk s _ _ _ _ h
  · exact State.command_blk hk s _ _ _ _ h
  · exact State.command_blk hk s _ _ _ _ h
  · exact State.command_blk hk s _ _ _ _ h
  · exact State.command_blk hk s _ _ _ _ h
  · exact State.command_blk hk s _ _ _ _ h
  · exact State.command_blk hk s _ _ _ _ h
  · exact State.abandon_blk hk s _ _ h
  · exact hk.markDue _ _ h
  · exact hk.frameEnd _ _ h
  · exact hk.markReceived _ _ _ _ h
  · exact hk.frameError _ _ h
  · exact hk.frameError _ _ h
  · exact hk.silenceExpiry _ _ h
  · exact hk.windowsEnd _ h
  iterate 13 exact hk.arrive _ _ _ h
  · exact hk.returnExpiry _ h
  · exact hk.carryExpiry _ h
  · exact hk.beaconExpiry _ h
  · exact hk.watchExpiry _ h
  · exact hk.settleExpiry _ h
  · exact hk.ageExpiry _ h
  · exact hk.transition _ _ h
  · exact hk.illegal _ h
  · exact hk.windowEnd _ h
  · exact hk.contactMakes _ _ _ h
  · exact hk.contactOpens _ _ _ h
  · exact hk.tickAll _ h
  · exact hk.closeLimit _ _ _ h
  · exact hk.grantExpiry _ h
  · exact hk.cycleStart _ h
  · exact hk.refComplete _ _ h
  · exact hk.refAbort _ h
  · exact hk.senseResult _ _ h
  · exact hk.senseResult _ _ h
  · exact hk.periodExpiry _ h
  · exact hk.scanDone _ _ _ _ _ h

/-! ## The interface and the host's memory -/

/-- What every command keeps at the interface: queue bounds (R175), the canonical list of host-written
words and that it lists nothing else (R166). -/
structure State.ifaceKept (s : State) : Prop where
  queues : s.ifc.queuesBounded
  wf : s.host.wf = true
  hostOnly : s.host.hostOnly

theorem State.finish_kept (s : State) (e : Ev) (h : s.ifaceKept) : (s.finish e).ifaceKept :=
  ⟨Iface.applyAll_bounded _ _ _ h.queues, h.wf, h.hostOnly⟩

theorem State.visit_kept (s : State) (n : Fin 16) (r : Request) (len : Nat) (body : List Byte)
    (h : s.ifaceKept) : (s.visit n r len body).ifaceKept := by
  have hq : ∀ i : Iface, i.queues = s.ifc.queues → State.ifaceKept { s with ifc := i } :=
    fun i hi => ⟨Iface.queuesBounded_of_eq hi h.queues, h.wf, h.hostOnly⟩
  have hr : ∀ tag x, ((s.ifc.openSlot n tag).reply n x).queues = s.ifc.queues := by
    intro tag x
    cases x <;> rfl
  unfold State.visit
  dsimp only
  split
  · split
    · exact hq _ rfl
    · exact h
  · split
    · unfold State.takeSlot
      split
      · exact hq _ (hr _ _)
      · exact State.finish_kept _ _ (hq _ (hr _ _))
    · exact h
  · split
    · unfold State.abandonSlot
      split
      · split
        · exact State.finish_kept _ _ (hq _ rfl)
        · exact h
      · split
        · exact State.finish_kept _ _ (hq _ rfl)
        · exact h
      · exact h
      · exact h
    · exact h

theorem State.command_kept (s : State) (n : Fin 16) (tag : Byte) (kind : Nat) (body : List Byte)
    (h : s.ifaceKept) : (s.command n tag kind body).ifaceKept := by
  have hp : (s.post n { req := .posted, kind := kind, tag := tag } body).ifaceKept :=
    ⟨h.queues, (State.post_host s n _ body).1 h.wf, (State.post_host s n _ body).2 h.hostOnly⟩
  unfold State.command
  dsimp only
  split
  · exact State.visit_kept _ _ _ _ _ hp
  · exact hp

theorem State.abandon_kept (s : State) (n : Fin 16) (tag : Byte) (h : s.ifaceKept) :
    (s.abandon n tag).ifaceKept := by
  have hp : ∀ w, State.ifaceKept { s with host := s.host.write (slotAddr n 0) w } := fun w =>
    ⟨h.queues, Memory.write_wf _ _ _ h.wf, Memory.write_hostOnly (hostWritten_slot n 0 (.inl (by omega))) h.hostOnly⟩
  unfold State.abandon
  dsimp only
  split
  · exact State.visit_kept _ _ _ _ _ (hp _)
  · exact hp _

theorem State.scanPass_kept (s : State) (h : s.ifaceKept) : s.scanPass.ifaceKept := by
  have hf : ∀ (ns : List (Fin 16)) (s : State), s.ifaceKept → (ns.foldl State.visitSlot s).ifaceKept := by
    intro ns
    induction ns with
    | nil => exact fun _ h => h
    | cons n ns ih => exact fun s h => ih _ (State.visit_kept s n _ _ _ h)
  unfold State.scanPass
  split
  · exact hf _ s h
  · exact h

theorem State.regWrite_kept (s : State) (n : Nat) (w : Word) (h : s.ifaceKept) : (s.regWrite n w).ifaceKept := by
  unfold State.regWrite
  split
  · unfold State.writeControl
    split
    · exact ⟨Iface.restart_bounded _, h.wf, h.hostOnly⟩
    · exact ⟨h.queues, h.wf, h.hostOnly⟩
  · exact ⟨h.queues, h.wf, h.hostOnly⟩
  · exact ⟨h.queues, h.wf, h.hostOnly⟩
  · exact h

theorem State.busWrite_kept (s : State) (a : Nat) (w : Word) (h : s.ifaceKept) : (s.busWrite a w).ifaceKept := by
  unfold State.busWrite
  dsimp only
  split
  · next ha =>
    have h1 := Memory.write_wf s.host a w h.wf
    have h2 := Memory.write_hostOnly (w := w) ha h.hostOnly
    split
    · exact ⟨Iface.drain_bounded _ _ _ h.queues, h1, h2⟩
    · refine ⟨?_, h1, h2⟩
      show (Iface.holdWrite _ _ _ _).queuesBounded
      unfold Iface.holdWrite
      split
      · exact Iface.queuesBounded_of_eq (Iface.releasePage_queues ..) h.queues
      · exact h.queues
    · exact ⟨h.queues, h1, h2⟩
  · exact h

theorem State.resetWith_kept (s : State) (m : Memory) (h1 : m.wf = true) (h2 : m.hostOnly) :
    (s.resetWith m).ifaceKept :=
  ⟨Iface.applyAll_bounded _ _ _ Iface.reset_bounded, h1, h2⟩

end Sys2Proof.Machine
end

