-- ==== Sys2Proof/Laws/Frames.lean ====
section
/-! SUPPORT. Frames on a coupler line: lengths of characters and frames, and what a receiver makes of characters, idle line and frames (R1, R2). -/

namespace Sys2Proof.Machine

@[simp] theorem charBits_length (b : Byte) : (charBits b).length = 10 := rfl

theorem frameBytes_length (type : Byte) (content : List Byte) :
    (frameBytes type content).length = content.length + 5 := by
  simp [frameBytes, wordBytes]

/-- A frame of n bytes holds the line for n characters and the gap. -/
theorem frameBits_length (bytes : List Byte) : (frameBits bytes).length = 10 * bytes.length + 30 := by
  have h : ∀ bs : List Byte, (bs.flatMap charBits).length = 10 * bs.length := by
    intro bs
    induction bs with
    | nil => rfl
    | cons b bs ih =>
      rw [List.flatMap_cons, List.length_append, ih, charBits_length, List.length_cons]
      omega
  rw [frameBits, List.length_append, h, gapBits, List.length_replicate]
  rfl

/-- The data bits of a character spell its byte. -/
theorem readByte_char (b : Byte) :
    byte (bitsNat ([b.getLsbD 0, b.getLsbD 1, b.getLsbD 2, b.getLsbD 3, b.getLsbD 4, b.getLsbD 5, b.getLsbD 6,
      b.getLsbD 7].map fun x => dataLevel x == dataLevel true)) = b := by
  revert b
  decide

/-- A character, for a receiver that takes characters. -/
theorem receive_char (p : Port) (k : Nat) (chars : List Byte) (b : Byte) (more : List Bool) :
    receive p (.takes k chars) (charBits b ++ more) =
      (takeChar p chars (some b)).2 ++ receive p (takeChar p chars (some b)).1 more := by
  have h : readChar (dataLevel (b.getLsbD 0)) (dataLevel (b.getLsbD 1)) (dataLevel (b.getLsbD 2))
      (dataLevel (b.getLsbD 3)) (dataLevel (b.getLsbD 4)) (dataLevel (b.getLsbD 5)) (dataLevel (b.getLsbD 6))
      (dataLevel (b.getLsbD 7)) idleLevel = some b := congrArg some (readByte_char b)
  rw [← h]
  rfl

/-- A bit of idle line. -/
theorem receive_idle (p : Port) (r : Receiver) (more : List Bool) :
    receive p r (idleLevel :: more) = (r.idleBit p).2 ++ receive p (r.idleBit p).1 more := by
  rw [receive.eq_def]
  exact if_pos rfl

/-- Characters that may still be those of a frame are taken, one after another. -/
theorem receive_chars (p : Port) (bs : List Byte) (more : List Bool) :
    ∀ (k : Nat) (chars : List Byte), bs ≠ [] → (∀ n ≤ bs.length, frameOpens (chars ++ bs.take n) = true) →
      receive p (.takes k chars) (bs.flatMap charBits ++ more) = receive p (.takes 0 (chars ++ bs)) more := by
  induction bs with
  | nil => exact fun _ _ h => absurd rfl h
  | cons b bs ih =>
    intro k chars _ h
    have h1 : frameOpens (chars ++ [b]) = true := h 1 (Nat.le_add_left 1 _)
    have ht : takeChar p chars (some b) = (.takes 0 (chars ++ [b]), []) := if_pos h1
    rw [List.flatMap_cons, List.append_assoc, receive_char, ht]
    by_cases hb : bs = []
    · rw [hb]
      rfl
    · have h2 := ih 0 (chars ++ [b]) hb fun n hn => by
        rw [List.append_assoc]
        exact h (n + 1) (Nat.succ_le_succ hn)
      rw [List.append_assoc] at h2
      exact h2

/-- Idle line brings a receiver that has taken nothing no command. -/
theorem receive_rest (p : Port) (n : Nat) (more : List Bool) :
    ∀ k, receive p (.takes k []) (List.replicate n idleLevel ++ more) = receive p (.takes (k + n) []) more := by
  induction n with
  | zero => exact fun k => rfl
  | succ n ih =>
    intro k
    rw [List.replicate_succ, List.cons_append, receive_idle]
    exact (ih (k + 1)).trans (by rw [Nat.add_right_comm]; rfl)

/-- A receiver that waits takes characters again after two character times of idle line. -/
theorem receive_wait (p : Port) (n : Nat) (more : List Bool) :
    ∀ k, k < idleLimit → idleLimit ≤ k + n →
      receive p (.waits k) (List.replicate n idleLevel ++ more) = receive p (.takes (k + n) []) more := by
  induction n with
  | zero => exact fun k h1 h2 => absurd h2 (Nat.not_le.mpr h1)
  | succ n ih =>
    intro k h1 h2
    rw [List.replicate_succ, List.cons_append, receive_idle]
    have ha : k + (n + 1) = k + 1 + n := by omega
    unfold Receiver.idleBit
    dsimp only
    by_cases hk : k + 1 < idleLimit
    · rw [if_pos hk, ha]
      exact ih (k + 1) hk (ha ▸ h2)
    · rw [if_neg hk, ha]
      exact receive_rest p n more (k + 1)

/-- The idle interval that ends a run brings the command of its characters. -/
theorem receive_runEnd (p : Port) (b : Byte) (bs : List Byte) (n : Nat) (more : List Bool) :
    ∀ k, (∀ j, j ≤ k + n → runEnds j (b :: bs) = false) → runEnds (k + n + 1) (b :: bs) = true →
      receive p (.takes k (b :: bs)) (List.replicate (n + 1) idleLevel ++ more) =
        receivedBytes p (b :: bs) :: receive p (.takes (k + n + 1) []) more := by
  induction n with
  | zero =>
    intro k _ h2
    rw [List.replicate_succ, List.cons_append, receive_idle]
    unfold Receiver.idleBit
    dsimp only
    rw [if_pos h2]
    rfl
  | succ n ih =>
    intro k h1 h2
    have ha : k + (n + 1) = k + 1 + n := by omega
    rw [List.replicate_succ, List.cons_append, receive_idle]
    unfold Receiver.idleBit
    dsimp only
    rw [if_neg (by rw [h1 (k + 1) (by omega)]; decide), ha]
    exact ih (k + 1) (fun j hj => h1 j (ha ▸ hj)) (ha ▸ h2)

/-- The inter-frame gap ends every run. -/
theorem receive_gap (p : Port) (b : Byte) (bs : List Byte) (more : List Bool) :
    receive p (.takes 0 (b :: bs)) (gapBits ++ more) =
      receivedBytes p (b :: bs) :: receive p (.takes gapLength []) more := by
  have key : ∀ n m, n + 1 + m = gapLength → (∀ j, j ≤ 0 + n → runEnds j (b :: bs) = false) →
      runEnds (0 + n + 1) (b :: bs) = true → receive p (.takes 0 (b :: bs)) (gapBits ++ more) =
        receivedBytes p (b :: bs) :: receive p (.takes gapLength []) more := by
    intro n m hm h1 h2
    have hg : gapBits = List.replicate (n + 1) idleLevel ++ List.replicate m idleLevel := by
      rw [← List.replicate_add, hm]
      rfl
    rw [hg, List.append_assoc, receive_runEnd p b bs n _ 0 h1 h2, receive_rest, ← hm, Nat.zero_add]
  unfold runEnds at key
  by_cases h : (b :: bs).length < 2
  · refine key 19 10 rfl (fun j hj => ?_) ?_ <;> rw [if_pos h]
    · exact decide_eq_false (by unfold idleLimit; omega)
    · rfl
  · refine key 20 9 rfl (fun j hj => ?_) ?_ <;> rw [if_neg h]
    · exact decide_eq_false (by unfold idleLimit; omega)
    · rfl

/-- A frame all of whose beginnings may be a frame's brings one command, and the receiver then takes the next. -/
theorem receive_frame (p : Port) (bytes : List Byte) (k : Nat) (more : List Bool) (hb : bytes ≠ [])
    (h : ∀ n ≤ bytes.length, frameOpens (bytes.take n) = true) :
    receive p (.takes k []) (frameBits bytes ++ more) =
      receivedBytes p bytes :: receive p (.takes gapLength []) more := by
  rw [frameBits, List.append_assoc, receive_chars p bytes _ k [] hb h, List.nil_append]
  match bytes, hb with
  | b :: bs, _ => exact receive_gap p b bs more

end Sys2Proof.Machine
end

