-- ==== Sys2Proof/Laws/Ports.lean ====
section
/-! SUPPORT. The port records of an event: what reading one after a replacement gives, and how a replacement at the start of an event reads as one of the blocks. -/

namespace Sys2Proof.Machine

@[simp] theorem Ev.port_setPort (e : Ev) (p : Port) (lp : LinkPort) : (e.setPort p lp).port p = lp := by
  cases p <;> rfl

theorem Ev.port_setPort_other (e : Ev) (p : Port) (lp : LinkPort) :
    (e.setPort p lp).port (portOther p) = e.port (portOther p) := by
  cases p <;> rfl

@[simp] theorem Ev.setPort_setPort (e : Ev) (p : Port) (a b : LinkPort) :
    (e.setPort p a).setPort p b = e.setPort p b := by
  cases p <;> rfl

@[simp] theorem Ev.setPort_same (e : Ev) (p : Port) : e.setPort p (e.port p) = e := by
  cases p <;> rfl

/-- A replacement at the start of an event is one of the blocks before it. -/
theorem Ev.start_setPort (b : Blocks) (p : Port) (lp : LinkPort) :
    (Ev.start b).setPort p lp = Ev.start (b.withPort p lp) := by
  cases p <;> rfl

@[simp] theorem Blocks.port_withPort (b : Blocks) (p : Port) (lp : LinkPort) : (b.withPort p lp).port p = lp := by
  cases p <;> rfl

@[simp] theorem Blocks.withPort_port (b : Blocks) (p : Port) : b.withPort p (b.port p) = b := by
  cases p <;> rfl

/-- The end of a SEND's copy touches no port. -/
theorem Ev.settleCopy_port (e : Ev) (o : Option Nat) (sent : Bool) (p : Port) :
    (e.settleCopy o sent).port p = e.port p := by
  unfold Ev.settleCopy
  split
  · rfl
  · split
    · rfl
    · dsimp only
      split
      · unfold Ev.complete
        split <;> cases p <;> rfl
      · cases p <;> rfl

end Sys2Proof.Machine
end

