-- ==== Sys2Proof/Laws/Reset.lean ====
section
/-! SUPPORT. The state after reset: power-on reset leaves it as it is, and its tables and lists are empty. -/

namespace Sys2Proof.Machine

/-- Power-on reset of the machine right after reset changes nothing. -/
theorem State.reset_again : State.reset.resetWith [] = State.reset := by decide

@[simp] theorem State.reset_host : State.reset.host = [] := rfl

@[simp] theorem State.reset_pending : State.reset.pending = [] := rfl

theorem State.reset_read (a : Nat) : State.reset.host.read a = 0 := rfl

/-- A reset keeps the queue of waiting commands. -/
theorem State.resetWith_pending (s : State) (h : Memory) : (s.resetWith h).pending = s.pending := rfl

/-- A reset leaves the host's memory that it was given. -/
theorem State.resetWith_host (s : State) (h : Memory) : (s.resetWith h).host = h := rfl

end Sys2Proof.Machine
end

