-- ==== Sys2Proof/Laws/Slots.lean ====
section
/-! SUPPORT. What a slot command row does: the request is posted, and either left to wait or taken and answered; what an event of the blocks leaves. -/

namespace Sys2Proof.Machine

/-- An event that asks for nothing and changes nothing leaves the state. -/
theorem State.does_nothing (s : State) : s.does s.blk (fun e => e) = s := rfl

/-- An event's outcome in terms of the blocks it leaves and the effects it asks for. -/
theorem runEvent_after (g : Ev → Ev) (s : State) :
    runEvent g s = s.after (g (Ev.start s.blk)).toBlocks (g (Ev.start s.blk)).allEffects := rfl

/-- An event as an operation on the blocks as they stand. -/
theorem runEvent_does (g : Ev → Ev) (s : State) : runEvent g s = s.does s.blk g := rfl

/-- Two operations that leave the same event in progress leave the same state. -/
theorem State.does_congr (s : State) {b c : Blocks} {f g : Ev → Ev} (h : f (Ev.start b) = g (Ev.start c)) :
    s.does b f = s.does c g := by simp only [State.does, h]

/-- A request that is not taken waits in the slot's words. -/
theorem State.command_waits (s : State) (n : Fin 16) (tag : Byte) (kind : Nat) (body : List Byte)
    (h : ¬ s.ready n tag) :
    s.command n tag kind body = s.post n { req := .posted, kind := kind, tag := tag } body := by
  unfold State.command
  by_cases hs : s.ifc.scan = true
  · rw [if_pos hs]
    simp only [State.visit]
    rw [if_neg]
    rintro ⟨h1, h2⟩
    exact h ⟨hs, h2, h1⟩
  · rw [if_neg hs]

/-- A request that is taken and parses is answered by its owning block. -/
theorem State.command_taken (s : State) (n : Fin 16) (tag : Byte) (kind : Nat) (body : List Byte)
    (h : s.ready n tag) (c : SlotCmd) (hc : parseCmd kind body.length body = .ok c) :
    s.command n tag kind body =
      let x := (Ev.start s.blk).dispatch (s.post n { req := .posted, kind := kind, tag := tag } body).host n c
      s.answered n tag kind body x.1.toBlocks x.2 x.1.allEffects := by
  unfold State.command
  have h1 : tag ≠ (s.ifc.slot n).tagEcho ∧ (s.ifc.slot n).state ≠ .taken := ⟨h.fresh, h.free⟩
  simp only [h.scan, if_true, State.visit]
  rw [if_pos (show tag ≠ ((s.post n { req := .posted, kind := kind, tag := tag } body).ifc.slot n).tagEcho ∧
    ((s.post n { req := .posted, kind := kind, tag := tag } body).ifc.slot n).state ≠ .taken from h1)]
  simp only [State.takeSlot, hc]
  rfl

/-- A request that is taken and fails the checks of R169 is refused. -/
theorem State.command_rejected (s : State) (n : Fin 16) (tag : Byte) (kind : Nat) (body : List Byte)
    (h : s.ready n tag) (r : ResultCode) (hc : parseCmd kind body.length body = .error r) :
    s.command n tag kind body = s.answered n tag kind body s.blk (.no r) [] := by
  unfold State.command
  have h1 : tag ≠ (s.ifc.slot n).tagEcho ∧ (s.ifc.slot n).state ≠ .taken := ⟨h.fresh, h.free⟩
  simp only [h.scan, if_true, State.visit]
  rw [if_pos (show tag ≠ ((s.post n { req := .posted, kind := kind, tag := tag } body).ifc.slot n).tagEcho ∧
    ((s.post n { req := .posted, kind := kind, tag := tag } body).ifc.slot n).state ≠ .taken from h1)]
  simp only [State.takeSlot, hc]
  rfl

/-- A command that its block refuses or answers without an effect. -/
theorem State.answered_of_eq (s : State) (n : Fin 16) (tag : Byte) (kind : Nat) (body : List Byte)
    {x : Ev × TakeResult} {r : TakeResult} (h : x = (Ev.start s.blk, r)) :
    s.answered n tag kind body x.1.toBlocks x.2 x.1.allEffects = s.answered n tag kind body s.blk r [] := by
  subst h; rfl

/-- A command that its block answers after an operation. -/
theorem State.answeredDoing_of_eq (s : State) (n : Fin 16) (tag : Byte) (kind : Nat) (body : List Byte)
    {x : Ev × TakeResult} {r : TakeResult} {b : Blocks} {g : Ev → Ev} (h : x = (g (Ev.start b), r)) :
    s.answered n tag kind body x.1.toBlocks x.2 x.1.allEffects = s.answeredDoing n tag kind body b r g := by
  subst h; rfl

end Sys2Proof.Machine
end

