-- ==== Sys2Proof/Tests/Slice0.lean ====
section
/-! SUPPORT. The model's own tests: well-formedness, one step of many commands on small states, and for every statement with hypotheses a state and operands that meet them. -/

namespace Sys2Proof.Tests

open Sys2Proof Sys2Proof.Machine

/-! ## Small states -/

/-- The state a command leaves. -/
def after (c : Instr) (s : State) : State :=
  match exec c s with
  | .next t => t
  | .fault _ => s
  | .refused _ => s

/-- The interface after reset with SCAN and DELIVER set. -/
def ifcOn : Iface := { State.reset.ifc with scan := true, deliver := true }

/-- A state with SCAN and DELIVER set and the given blocks. -/
def on (b : Blocks) : State := { blk := b, ifc := ifcOn, host := [], pending := [] }

/-- The blocks after reset. -/
def blk0 : Blocks := State.reset.blk

/-- A port that is up towards end `x` of the car `i`. -/
def upPort (i : Ident) (x : Byte) : LinkPort := { state := .up, nbrId := i, nbrEnd := x, silence := .running 0 }

/-- A car of a train. -/
def car (i : Ident) : SweepEntry :=
  { id := i, towardEnd := 1, doorsLeft := 2, doorsRight := 2, flags := 0, r := 100, f := 10, s := 20 }

/-- A live table of three cars at position `q`. -/
def train (q : Nat) : LiveTable :=
  { entries := [car 7, car 8, car 9], pos := q, gen := 5, leadId := 7, toward := .p1 }

/-- The profile of a car with cab and two doors a side. -/
def prof (i : Ident) : Profile :=
  { identity := i, cab1 := true, doorsLeft := 2, doorsRight := 2, r := 100, f := 10, s := 20 }

/-- The lead of a train of three. -/
def leadBlk : Blocks :=
  { profile := prof 7, port2 := upPort 8 1
    consist := { role := .lead, cabEnd := some .p1, table := some (train 1), lastGen := 5
                 periodT := .running 0 } }

/-- The car in the middle. -/
def midBlk : Blocks :=
  { profile := prof 8, port1 := upPort 7 2, port2 := upPort 9 1
    consist := { role := .follower, table := some (train 2), lastGen := 5, watchT := .running 0 } }

/-- The car at the tail. -/
def tailBlk : Blocks :=
  { profile := prof 9, port1 := upPort 8 2
    consist := { role := .follower, table := some (train 3), lastGen := 5, watchT := .running 0 } }

/-- A car alone with both ports up. -/
def aloneBlk : Blocks := { profile := prof 8, port1 := upPort 7 2, port2 := upPort 9 1 }

/-- The same car carrying a sweep of lead 7 at position 2, with the pending table of the train. -/
def carryBlk : Blocks :=
  { aloneBlk with consist := {
      sweep := .carrying, carryT := .running 0
      carry := some { leadId := 7, number := 3, port := .p1, pos := 2 }
      pendingTable := some [car 7, car 8, car 9] } }

/-- The lead with the sweep state `w` and sweep counter 3. -/
def leadIn (w : SweepState) : Blocks :=
  { leadBlk with consist := { leadBlk.consist with
      sweep := w, sweepCounter := 3, attemptLead := 7, returnT := .running 0, settleT := .running 0 } }

/-- A telegram of kind `k`, class and mode byte `cm`, generation 5, from position `src`. -/
def tel (k cm hops src lo hi : Byte) (payload : List Byte) : Telegram :=
  { hdr := { kind := k, classMode := cm, hops := hops, gen := 5, srcPos := src, dstLo := lo, dstHi := hi
             flags := 0, seq := 0, plen := word payload.length, srcId := 7 }
    payload := payload }

/-- A state with DELIVER set and blocks `b` takes slot 0 with tag 1. -/
theorem ready_on (b : Blocks) : (on b).ready 0 1 :=
  ⟨rfl, show SlotState.free ≠ .taken by decide, show (1 : Byte) ≠ 0 by decide⟩

/-! ## Well-formedness: an ill-formed command for each check -/

theorem test_wf_ifreset : (Instr.ifreset 0x7FFF).wellFormed = false := by decide
theorem test_wf_scan : (Instr.scan 0x8001).wellFormed = false := by decide
theorem test_wf_deliver : (Instr.deliver 0x8002).wellFormed = false := by decide
theorem test_wf_ignored : [1, 2, 3].map (fun n => (Instr.registerWriteIgnored n 0).wellFormed) =
    [false, false, false] := by decide
theorem test_wf_hold : (Instr.holdSet .link 2).wellFormed = false ∧
    (Instr.holdRelease .link 3).wellFormed = false := by decide
theorem test_wf_send : (Instr.send 0 1 1 0 1 0 0 0 (List.replicate 474 0)).wellFormed = false := by
  show decide (7 + (List.replicate 474 (0 : Byte)).length ≤ 480) = false
  rw [List.length_replicate]
  rfl
theorem test_wf_reference : (Instr.referencePhaseComplete 0).wellFormed = false := by decide
theorem test_wf_kind : ∀ c ∈ telegramRows .p1 (tel 14 0x01 0 0 1 0 []), c.wellFormed = false := by decide
theorem test_wf_long : (Instr.dataTelegram .p1 (tel 13 0x01 0 0 1 0 (List.replicate 465 0))).wellFormed = false := by
  show ((13 : Byte) == 13 && decide ((List.replicate 465 (0 : Byte)).length ≤ 464)) = false
  rw [List.length_replicate]
  rfl
theorem test_wf_accepted : (Instr.ifreset 0x8000).wellFormed = true ∧ (Instr.scan 1).wellFormed = true ∧
    (Instr.registerWriteIgnored 0 0).wellFormed = true ∧ (Instr.registerWriteIgnored 4 0).wellFormed = true ∧
    (Instr.holdSet .link 1).wellFormed = true ∧ (Instr.holdRelease .link 0).wellFormed = true ∧
    (Instr.beaconTelegram .p1 (tel 6 0x31 1 1 0 0 (List.replicate 7 0))).wellFormed = true := by decide
theorem test_wf_send_longest : (Instr.send 0 1 1 0 1 0 0 0 (List.replicate 473 0)).wellFormed = true := by
  show decide (7 + (List.replicate 473 (0 : Byte)).length ≤ 480) = true
  rw [List.length_replicate]
  rfl

theorem test_decode_none : decodeTableWord 16 0x1234 = none := rfl
theorem test_fetch_same : State.reset.withFetchWord 16 0x1234 = State.reset := rfl

/-! ## One step -/

theorem test_idle : step State.reset = .next State.reset := rfl
theorem test_front : step { State.reset with pending := [.tick, .scanPass] } =
    exec .tick { State.reset with pending := [.scanPass] } := rfl
theorem test_tick : (after .tick State.reset).blk.tick = 1 := by decide
theorem test_tick_slot : (after .tick State.reset).blk.heater.slot = 1 := by decide
theorem test_scan : (after (.scan 3) State.reset).ifc.scan = true ∧
    (after (.scan 3) State.reset).ifc.deliver = true := by decide
theorem test_deliver : (after (.deliver 2) (on blk0)).ifc.scan = false := by decide
theorem test_ifreset : (after (.ifreset 0x8003) (on blk0)).ifc.scan = false := by decide
theorem test_memory_read : (after (.memoryWrite 0x0009 25) State.reset).busRead 0x0009 = 25 := by decide
theorem test_memory_ignored : after (.memoryWrite 0x0100 25) State.reset = State.reset := by decide
theorem test_ident : State.reset.regRead 0 = 0x3201 := by decide
theorem test_drain_invalid : (after (.drainWrite 0 7) State.reset).ifc.cause = 0b10000 := by decide
theorem test_drain_at_8 : (after (.drainWrite 0 8) State.reset).ifc.cause = 0 := by decide
theorem test_heat_set : (after (.heatSet 0 1 0x0100 64 65) (on blk0)).ifc.slot 0 =
    { state := .refused, tagEcho := 1, result := 2 } := by decide
theorem test_heat_set_done : ((after (.heatSet 0 1 0x0100 64 64) (on blk0)).ifc.slot 0).state = .done := by decide
theorem test_budget : (after (.budget 0 1 8000 4095) (on blk0)).blk.alloc.b = 8000 := by decide
theorem test_budget_refused : ((after (.budget 0 1 8001 0) (on blk0)).ifc.slot 0).result = 2 := by decide
theorem test_monitor : (after (.monitor 0 1 0 3 2) (on blk0)).blk.monitor.scan = .scanning 0 [] := by decide
theorem test_same_tag : (after (.budget 0 1 100 0) (after (.budget 0 1 8000 0) (on blk0))).blk.alloc.b = 8000 := by
  decide
theorem test_bad_kind : ((after .scanPass (after (.memoryWrite 0x0200 0x1A01) (on blk0))).ifc.slot 0).result = 1 := by
  decide
theorem test_set_cab : ((after (.setCab 0 1 1) (on blk0)).ifc.slot 0).result = 13 := by decide
theorem test_start_sweep : ((after (.startSweep 0 1) (on blk0)).ifc.slot 0).result = 8 := by decide
theorem test_restore_link : ((after (.restoreLink 0 1 2) (on blk0)).ifc.slot 0).result = 14 := by decide
theorem test_first_mark : (after (.markReceived .p1 9 2) State.reset).blk.port1.state = .settling := by decide
theorem test_mark_bad_end : (after (.markReceived .p1 9 3) State.reset).blk.port1.winErr = 1 := by decide
theorem test_silence : (after (.silenceTimerExpiry .p1) (after (.markReceived .p1 9 2) State.reset)).blk.port1.state =
    .dead := by decide
theorem test_mark_due : (after (.markDue .p1) State.reset).blk.port1.markDue = true := by decide
theorem test_frame_end : (after (.frameEnd .p1) State.reset).blk.port1.tx = .idle := by decide
theorem test_framing : (after (.framingError .p2) State.reset).blk.port2.winErr = 1 := by decide
theorem test_window : (after .qualityWindowEnd (after (.framingError .p2) State.reset)).blk.port2.lastErr = 1 := by
  decide
theorem test_contact : (after (.contactMakes .left 0) (on midBlk)).blk.doors.left.doors.x0.contact = true := by decide
theorem test_forced : (after (.contactOpens .left 0) (on midBlk)).blk.doors.left.doors.x0.state = .forced := by decide
theorem test_encoder : (after (.encoderTransition .a) (on { midBlk with motion := { state := .stopped } })).blk.motion.count
    = 1 := by decide
theorem test_illegal : (after .illegalTransition (on { midBlk with motion := { state := .stopped } })).blk.motion.illegal
    = 1 := by decide
theorem test_motion_window : (after .motionWindowEnd
    (on { midBlk with motion := { state := .unknown, quiet := 2, windowDue := true } })).blk.motion.state = .stopped := by decide
theorem test_motion_window_early : after .motionWindowEnd (on midBlk) = on midBlk := by decide
theorem test_window_tick : (after .tick (on { midBlk with motion := { windowTicks := 9 } })).blk.motion.windowDue = true := by
  decide
theorem test_reference : (after (.referencePhaseComplete 5) (on blk0)).blk.converter.phase = .senseA := by decide
theorem test_sensor : (after (.sensorPhaseEnd 16) (after (.referencePhaseComplete 5) (on blk0))).blk.converter.chA.state
    = .valid := by decide
theorem test_overflow : (after .measureOverflow (after (.referencePhaseComplete 5) (on blk0))).blk.converter.chA.fault =
    .overflow := by decide
theorem test_abort : (after .referenceAbort (on blk0)).blk.converter.refFaults = 1 := by decide
/-- The blocks at the last slot of a heater cycle. -/
def lastSlotBlk : Blocks := { blk0 with heater := { blk0.heater with slot := 255 } }

theorem test_cycle_due : (after .tick (on lastSlotBlk)).blk.heater.cycleDue = true := by decide
theorem test_cycle : (after .cycleStart (after .tick (on lastSlotBlk))).blk.heater.cycles = 2 := by decide
theorem test_cycle_once : (after .cycleStart (on blk0)) = on blk0 := by decide
theorem test_scan_complete : (after (.scanComplete 1 2 3 4) (after (.monitor 0 1 1 2 2) (on blk0))).blk.monitor.chans.x2.code
    = 3 := by decide
theorem test_beacon_follower : (after (.beaconTelegram .p1 (tel 6 0x31 2 1 0 0 [4, 0, 7, 0, 0, 0, 1])) (on tailBlk)).blk.consist.beaconNo
    = 4 := by decide
theorem test_grant : (after (.grantTelegram .p1 (tel 12 0x32 2 1 0 0 [1, 0, 9, 0, 3, 0, 11, 12, 13])) (on tailBlk)).blk.heater.g
    = 13 := by decide
theorem test_dissolve : (after (.dissolveTelegram .p1 (tel 5 0x01 0 2 2 0 [5])) (on tailBlk)).blk.consist.role = .alone := by
  decide
theorem test_misrouted : (after (.dataTelegram .p1 (tel 13 0x31 2 3 0 0 [])) (on tailBlk)).blk.port1.drops.x1 = 1 := by
  decide
theorem test_door_telegram : (after (.doorTelegram .p1 (tel 9 0x30 2 1 0 0 [1, 1, 1])) (on tailBlk)).blk.doors.left.release
    = true := by decide
theorem test_demand : ((after (.demandTelegram .p2 (tel 11 0x42 1 2 0 0 [50, 10, 0, 0]))
    (on { leadBlk with alloc := { table := some [{ r := 1, f := 1, s := 1 }, { r := 1, f := 1, s := 1 }] } })).blk.alloc.table.map
      fun xs => xs.map fun x => x.d) = some [0, 50] := by decide
theorem test_crc : frameCheck [] = 0xFFFF := rfl
theorem test_crc_digits : frameCheck [0x31, 0x32, 0x33, 0x34, 0x35, 0x36, 0x37, 0x38, 0x39] = 0x4B37 := by decide +kernel
theorem test_char : charBits 0x55 = [false, true, false, true, false, true, false, true, false, true] := by decide
theorem test_mark_bits : receivedBits .p1 (frameBits (frameBytes markType (markContent 9 2))) =
    [.markReceived .p1 9 2] := by decide +kernel
theorem test_two_frames : receivedBits .p1 (frameBits (frameBytes markType (markContent 9 2)) ++
    frameBits (frameBytes markType (markContent 8 1))) = [.markReceived .p1 9 2, .markReceived .p1 8 1] := by
  decide +kernel
theorem test_abort_bits : receivedBits .p1 abortBits = [.framingError .p1] := by decide +kernel
theorem test_stray_run : receivedBits .p1 (charBits 0x00 ++ charBits 0x55 ++ List.replicate 25 idleLevel ++
    frameBits (frameBytes markType (markContent 9 2))) = [.framingError .p1, .markReceived .p1 9 2] := by decide +kernel
/-- Log entry 39: the data bits 1 and the stop bit of a character count toward the wait after a framing error. -/
theorem test_wait_counts_bits : receivedBits .p1 (charBits 0x00 ++ charBits 0xFF ++ List.replicate 11 idleLevel ++
    frameBits (frameBytes markType (markContent 9 2))) = [.framingError .p1, .markReceived .p1 9 2] := by decide +kernel
/-- Log entry 39: a mark frame with six content bytes is one framing error. -/
theorem test_long_mark : receivedBits .p1 (frameBits (frameBytes markType (markContent 9 2 ++ [0]))) =
    [.framingError .p1] := by decide +kernel
theorem test_idle_in_frame : receivedBits .p1 (charBits 0x55 ++ charBits 0xD3 ++ List.replicate 21 idleLevel ++
    frameBits (frameBytes markType (markContent 9 2))) = [.framingError .p1, .markReceived .p1 9 2] := by decide +kernel
theorem test_idle_allowed : receivedBits .p1 (charBits 0x55 ++ List.replicate 19 idleLevel ++ charBits 0xD3 ++
    List.replicate 20 idleLevel ++ ((frameBytes markType (markContent 9 2)).drop 2).flatMap charBits ++ gapBits) =
    [.markReceived .p1 9 2] := by decide +kernel
theorem test_position_bytes : badDest .position 1 33 = true ∧ badDest .position 33 1 = true ∧
    midBlk.unreachable .position 1 4 = true := by decide
theorem test_door_contact : doorWords true { state := .closed, contact := true } = [0, 0, 0, 0] := by decide

/-! ## Witnesses: states and operands that meet the hypotheses of the statements, clause by clause -/

theorem witness_ControlRegister : (0x7FFF : Word).getLsbD 15 = false ∧ (0x8000 : Word).getLsbD 15 = true := by decide

theorem witness_RegistersWritten : ((0 : BitVec 3) = 0 ∨ 4 ≤ (0 : BitVec 3).toNat) ∧
    ((7 : BitVec 3) = 0 ∨ 4 ≤ (7 : BitVec 3).toNat) ∧ 4 ≤ (4 : BitVec 3).toNat := by decide

theorem witness_MemoryWrite : State.reset.host.wf = true ∧ hostWritten 0x100 = false ∧ hostWritten 0 = true ∧
    (∀ q : Fin 4, (0x94 : Nat) ≠ 0x90 + q.val) ∧ (∀ p : Fin 6, (0x94 : Nat) ≠ 0x81 + 2 * p.val) := by decide

/-- A state whose LINK page is held with one publication withheld. -/
def heldState : State :=
  { on blk0 with
    host := [(0x81, 1)]
    ifc := ifcOn.setPage .link { latest := some [1, 2], deferred := 1 } }

theorem witness_Pages : heldState.host.wf = true ∧ pageHeld heldState.host .link = true ∧
    (heldState.ifc.page .link).deferred ≠ 0 ∧ (heldState.ifc.page .link).latest = some [1, 2] ∧
    (0 : Word).getLsbD 0 = false ∧ (1 : Word).getLsbD 0 = true ∧ pageHeld (on blk0).host .link = false ∧
    ((on blk0).ifc.page .link).deferred = 0 := by decide

theorem witness_Delivery : ifcOn.deliver = true ∧ State.reset.ifc.deliver = false ∧ 4 ≤ (4 : Word).toNat ∧
    (3 : Word).toNat = (3 : Fin 4).val ∧ (((7 : BitVec 4) - 0).toNat < 8) ∧ ((8 : BitVec 4) - 0).toNat = 8 := by decide

theorem witness_Delivery_words : ({} : DQueue).entries[(0 : Fin 8)] = .blank ∧
    ({ entries := ({} : DQueue).entries.set 7 (.notice 17 3 1 2) } : DQueue).entries[(7 : Fin 8)] = .notice 17 3 1 2 ∧
    ({ entries := ({} : DQueue).entries.set 7 (.telegram 1 3 (tel 13 0x31 1 1 0 0 [])) } : DQueue).entries[(7 : Fin 8)] =
      .telegram 1 3 (tel 13 0x31 1 1 0 0 []) ∧ 0x108 ≤ 0x108 ∧ 0x1FF < 0x200 ∧ (0x3E00 : Nat) < 0x3FFF + 1 ∧
    leadBlk.consist.role = .lead ∧ midBlk.consist.role ≠ .lead := by decide

theorem witness_SlotPosting : slotRow (.budget 15 1 0 0) = some (15, 1, 7, [0, 0, 0, 0]) ∧
    State.reset.host.wf = true ∧ State.reset.ifc.scan = false ∧ ifcOn.scan = true := by decide

theorem witness_SlotPosting_waits : ¬ State.reset.ready 15 1 := fun h => absurd h.scan (by decide)

theorem witness_SlotReply : 1 ≤ 7 ∧ 7 ≤ 9 ∧ (480 < 481) ∧
    ([0, 0, 0].take 3 : List Byte).length < [0, 0, 1, 0, 7, 7, 4, 4, 3, 1].getD 7 0 := by decide

theorem witness_HeatSet : (on blk0).ready 0 1 ∧ 64 < (65 : Byte).toNat ∧ (64 : Byte).toNat ≤ 64 :=
  ⟨ready_on blk0, by decide, by decide⟩

theorem witness_Budget : (on blk0).ready 0 1 ∧ 8000 < (8001 : Word).toNat ∧ 4095 < (4096 : Word).toNat ∧
    (8000 : Word).toNat ≤ 8000 ∧ (4095 : Word).toNat ≤ 4095 :=
  ⟨ready_on blk0, by decide, by decide, by decide, by decide⟩

/-- A car whose P1 is FAULTED. -/
def faultedBlk : Blocks := { blk0 with port1 := { state := .faulted } }

theorem witness_RestoreLink : (on faultedBlk).ready 0 1 ∧ (1 : Byte).toNat = portNum .p1 ∧
    ((on faultedBlk).blk.port .p1).state = .faulted ∧ ((on faultedBlk).blk.port .p2).state ≠ .faulted ∧
    (0 : Byte).toNat ≠ 1 ∧ (3 : Byte).toNat ≠ 2 :=
  ⟨ready_on faultedBlk, by decide, by decide, by decide, by decide, by decide⟩

theorem witness_MonitorCommand : (on blk0).ready 0 1 ∧ 3 < (4 : Byte).toNat ∧ (0 : Byte).toNat ≤ (3 : Byte).toNat ∧
    (3 : Byte).toNat ≤ 3 ∧ (1 : Byte).toNat < (2 : Byte).toNat :=
  ⟨ready_on blk0, by decide, by decide, by decide, by decide⟩

/-- A car alone with a cab at end 1 that nothing is coupled to. -/
def cabBlk : Blocks := { profile := prof 7, port2 := upPort 8 1 }

theorem witness_SetCab_refused : (on cabBlk).ready 0 1 ∧ 3 ≤ (3 : Byte).toNat ∧ (1 : Byte).toNat = portNum .p1 ∧
    leadBlk.consist.cabEnd = some .p1 ∧ blk0.consist.cabEnd ≠ some .p1 ∧ blk0.profile.identity = 0 ∧
    cabBlk.profile.identity ≠ 0 ∧ cabBlk.profile.cab2 = false ∧ cabBlk.profile.cab1 = true ∧
    (aloneBlk.port .p1).state = .up ∧ ({ leadBlk with port2 := {}, profile := { prof 7 with cab2 := true } } : Blocks).consist.cabEnd
      ≠ none :=
  ⟨ready_on cabBlk, by decide, by decide, by decide, by decide, by decide, by decide, by decide, by decide, by decide,
   by decide⟩

theorem witness_SetCab : (on cabBlk).ready 0 1 ∧ (1 : Byte).toNat = portNum .p1 ∧ cabBlk.consist.cabEnd = none ∧
    cabBlk.profile.identity ≠ 0 ∧ cabBlk.profile.cab1 = true ∧ (cabBlk.port .p1).state = .dead ∧
    leadBlk.consist.cabEnd = some .p1 ∧ leadBlk.consist.table = some (train 1) :=
  ⟨ready_on cabBlk, by decide, by decide, by decide, by decide, by decide, by decide, by decide⟩

theorem witness_StartSweep : (on leadBlk).ready 0 1 ∧ aloneBlk.consist.role ≠ .lead ∧ leadBlk.consist.role = .lead ∧
    leadBlk.consist.table = some (train 1) ∧ leadBlk.consist.sweep = .idle ∧
    (leadIn (.awaitReturn 3)).consist.sweep = .awaitReturn 3 ∧ (leadIn .resweepWait).consist.sweep = .resweepWait :=
  ⟨ready_on leadBlk, by decide, by decide, by decide, by decide, by decide, by decide⟩

/-- A SEND's copy, waiting at P1. -/
def waitingTel : QTel := { cls := .service, tel := tel 13 0x03 0 0 1 0 [], origin := some 5 }

/-- A state whose slot 0 reports operation `op` under tag 1, with SEND 5 in P1's queue. -/
def reporting (b : Blocks) (op : SlotOp) : State :=
  { on { b with port1 := { b.port1 with queues := { b.port1.queues with x3 := [waitingTel] } }
                relay := { seq := 6, waiting := [{ id := 5, slot := some 0, seq := 5, left := 1, sent := 0
                                                   lost := 0, localCopy := false }] } } with
    ifc := ifcOn.setSlot 0 { state := .taken, tagEcho := 1, op := some op } }

theorem witness_Abandon : (reporting blk0 .once).ifc.scan = true ∧
    ((reporting blk0 .once).ifc.slot 0).op = some .once ∧
    ((reporting (leadIn (.awaitReturn 1)) .sweep).ifc.slot 0).op = some .sweep ∧
    ((reporting (leadIn (.awaitReturn 1)) .sweep).ifc.slot 0).state = .taken ∧
    (reporting (leadIn (.awaitReturn 1)) .sweep).blk.consist.sweep = .awaitReturn 1 ∧
    ((reporting blk0 (.send 5)).ifc.slot 0).op = some (.send 5) ∧
    (reporting blk0 (.send 5)).blk.port1.hasQueued 5 = true ∧
    (reporting blk0 (.send 4)).blk.port1.hasQueued 4 = false ∧
    ((reporting blk0 (.send 5)).blk.relay.waiting.find? fun y => y.id = 5).isSome = true ∧
    ((reporting blk0 (.send 4)).blk.relay.waiting.find? fun y => y.id = 4) = none := by decide

/-- Two SENDs of one sequence number wait; the abandonment of one leaves the other and its copy. -/
theorem test_abandon_one : (after (.abandon 0 1) (let s := reporting blk0 (.send 5)
    { s with blk := { s.blk with
        port2 := { s.blk.port2 with queues := { s.blk.port2.queues with x3 := [{ waitingTel with origin := some 6 }] } }
        relay := { s.blk.relay with waiting := s.blk.relay.waiting ++ [
          { id := 6, slot := some 1, seq := 5, left := 1, sent := 0, lost := 0, localCopy := false }] } } })).blk.relay.waiting.map
      (fun y => y.id) = [6] := by decide

theorem witness_Abandon_resweep : ∀ k, (reporting (leadIn .resweepWait) .sweep).blk.consist.sweep ≠ .awaitReturn k :=
  fun _ h => nomatch h

/-- R69, row 6: a POSITION whose high byte lies above N is refused BAD_DESTINATION, as one whose low byte does. -/
theorem test_send_position : ((after (.send 0 1 1 1 1 4 0 0 []) (on leadBlk)).ifc.slot 0).result = 5 ∧
    ((after (.send 0 1 1 1 4 1 0 0 []) (on leadBlk)).ifc.slot 0).result = 5 := by decide

theorem witness_SendRefused : (on leadBlk).ready 0 1 ∧ 3 < (4 : Byte).toNat ∧ 4 < (5 : Byte).toNat ∧
    464 < (465 : Word).toNat ∧ 32 < (33 : Byte).toNat ∧ (1 : Byte).toNat < (2 : Byte).toNat ∧
    aloneBlk.consist.table = none ∧ leadBlk.cars < (4 : Byte).toNat ∧ leadBlk.isUp .p1 = false ∧
    leadBlk.consist.table ≠ none :=
  ⟨ready_on leadBlk, by decide, by decide, by decide, by decide, by decide, by decide, by decide, by decide, by decide⟩

theorem witness_SendAccepted : (on leadBlk).ready 0 1 ∧ (0 : Word).toNat ≤ ([] : List Byte).length ∧
    badDest .position 3 3 = false ∧ leadBlk.consist.table ≠ none ∧ leadBlk.unreachable .position 3 3 = false ∧
    badDest .position 1 33 = true ∧ badDest .neighbour 2 0 = false ∧ leadBlk.unreachable .neighbour 2 0 = false :=
  ⟨ready_on leadBlk, by decide, by decide, by decide, by decide, by decide, by decide, by decide⟩

theorem witness_DoorCommand : (on midBlk).ready 0 1 ∧ (0 : Byte).toNat < 1 ∧ 4 < (5 : Byte).toNat ∧
    (3 : Byte).toNat ≠ 2 ∧ midBlk.profile.doorsLeft < (3 : Byte).toNat ∧ midBlk.consist.role ≠ .alone ∧
    aloneBlk.consist.role = .alone ∧ (1 : Fin 4).val < midBlk.profile.doorCount .left ∧
    (midBlk.doors.left.doors.get 1).state ≠ .isolated :=
  ⟨ready_on midBlk, by decide, by decide, by decide, by decide, by decide, by decide, by decide, by decide⟩

theorem witness_DoorCommand_isolated :
    ((after (.door 0 1 3 2 1 0 0 2 0) (on midBlk)).blk.doors.left.doors.get 1).state = .isolated := by decide

theorem witness_DoorTrainScope : (on leadBlk).ready 0 1 ∧ leadBlk.consist.role = .lead ∧ midBlk.consist.role ≠ .lead ∧
    (leadIn (.awaitReturn 1)).consist.sweep ≠ .idle ∧ leadBlk.consist.sweep = .idle ∧
    leadBlk.cars < (4 : Byte).toNat ∧ (3 : Byte).toNat ≤ leadBlk.cars ∧ (32 : Byte).toNat ≤ 32 :=
  ⟨ready_on leadBlk, by decide, by decide, by decide, by decide, by decide, by decide, by decide⟩

/-- A profile area: identity 7, ranges kept. -/
def area : Memory :=
  [(0, 7), (4, 2), (9, 10), (0xD, 8), (0xE, 8), (0xF, 2), (0x10, 64), (0x11, 96), (0x12, 64), (0x13, 96)]

theorem witness_AdoptProfile : (on cabBlk).ready 0 1 ∧ area.wf = true ∧
    firstBadField (readProfile area).1 (readProfile area).2 = none ∧
    firstBadField (readProfile []).1 (readProfile []).2 = some 9 ∧
    leadBlk.cabForbids (readProfile area).1 = true ∧ blk0.cabForbids (readProfile area).1 = false ∧
    blk0.openSides (readProfile area).1 = 0 ∧
    ({ midBlk with doors := { left := { doors := Quad.const { state := .opened } } } } : Blocks).openSides
      (readProfile area).1 = 1 :=
  ⟨ready_on cabBlk, by decide, by decide, by decide, by decide, by decide, by decide, by decide⟩

/-- The car in the middle with a sensor, stopped, an overtemperature limit and another standby ceiling. -/
def fittedBlk : Blocks :=
  { midBlk with profile := { midBlk.profile with sensor := true, otLimit := 70, s := 30 }
                motion := { state := .stopped } }

theorem witness_AdoptProfile_reactions : fittedBlk.motion.state = .stopped ∧ midBlk.motion.state = .unfitted ∧
    (midBlk.motion.adopt true false).state = .unknown ∧ (fittedBlk.motion.adopt false false).state ≠ .stopped ∧
    fittedBlk.profile.sensor ≠ midBlk.profile.sensor ∧ midBlk.consist.table ≠ none ∧ blk0.consist.table = none ∧
    midBlk.profile.otLimit = 0 ∧ fittedBlk.profile.otLimit ≠ 0 ∧ blk0.converter.phase ≠ .senseB ∧
    ({ phase := .senseB } : Converter).phase = .senseB ∧ fittedBlk.profile.s ≠ midBlk.profile.s ∧
    blk0.converter.chA.state = .noCode ∧ ({ state := .valid } : Channel).state ≠ .noCode ∧
    ({ state := .valid } : Channel).state ≠ .unavailable ∧ ({ state := .unavailable } : Channel).state = .unavailable := by
  decide

theorem witness_AdoptProfile_doors : midBlk.profile.doorsLeft = (prof 9).doorsLeft ∧
    blk0.profile.doorsLeft ≠ midBlk.profile.doorsLeft ∧ ¬ (1 : Fin 4).val < blk0.profile.doorCount .left ∧
    (1 : Fin 4).val < midBlk.profile.doorCount .left ∧ midBlk.profile.doorCount .left ≤ (2 : Fin 4).val ∧
    (midBlk.doors.left.doors.get 1).contact = false := by decide

theorem witness_Transmitter : ({} : LinkPort).tx = .idle ∧ State.reset.blk.port1.tx = .mark 0 ∧
    ({ tx := .telegram waitingTel } : LinkPort).tx = .telegram waitingTel := by decide

/-- A port with one telegram of class SERVICE. -/
def servicePort : LinkPort := { queues := { x0 := [], x1 := [], x2 := [], x3 := [waitingTel] } }

theorem witness_Scheduler : 1 ≤ blk0.profile.powerWeight ∧ 1 ≤ blk0.profile.serviceWeight ∧
    (∀ q ∈ servicePort.queues.x2 ++ servicePort.queues.x3, q.tel.payload.length ≤ 464) ∧
    servicePort.queues.x0 = [] ∧ servicePort.queues.x1 = [] ∧ servicePort.queues.x3 ≠ [] ∧
    ({} : LinkPort).queues = Quad.const [] := by decide

/-- A SERVICE telegram of `n` payload bytes. -/
def serviceTel (n : Nat) : QTel :=
  { cls := .service, tel := tel 13 0x03 0 0 1 0 (List.replicate n 0), origin := none }

/-- A port whose SERVICE queue has the turn and holds `qs`. -/
def servicePorts (qs : List QTel) : LinkPort :=
  { queues := { x0 := [], x1 := [], x2 := [], x3 := qs }, turn := .service }

theorem witness_Scheduler_turn : 16 + (serviceTel 16).tel.payload.length ≤ 0 + 1 * 32 ∧
    0 + 1 * 32 < 16 + (serviceTel 17).tel.payload.length ∧
    ({ servicePort with turn := .power } : LinkPort).queues.x2 = [] ∧
    (servicePorts [serviceTel 16]).queues.x3 = serviceTel 16 :: [] ∧
    ({ queues := { x0 := [], x1 := [], x2 := [serviceTel 16], x3 := [] }, turn := .service } : LinkPort).queues.x3 = [] ∧
    ((servicePorts [serviceTel 16]).schedule { blk0.profile with serviceWeight := 1 }).tx = .telegram (serviceTel 16) ∧
    ((servicePorts [serviceTel 17]).schedule { blk0.profile with serviceWeight := 1 }).tx = .telegram (serviceTel 17) := by
  decide

theorem witness_SendCompletes : ∃ (e : Ev) (v : WaitSend), e.relay.waiting = [] ++ v :: [] ∧ v.left = 1 ∧
    v.slot = some 0 := ⟨Ev.start (reporting blk0 (.send 5)).blk, _, rfl, rfl, rfl⟩

theorem witness_Copies : (blk0.port .p1).state ≠ .up ∧ (midBlk.port .p1).state = .up ∧ (midBlk.port .p2).state = .up ∧
    1 ≤ midBlk.free ∧ 1 ≤ midBlk.profile.limit .control ∧
    ¬ (0 + 97 ≤ midBlk.profile.limit .control) := by decide

theorem witness_Copies_pairs : (leadBlk.port .p1).state ≠ .up ∧ (leadBlk.port .p2).state = .up ∧
    (midBlk.port .p1).state = .up ∧ (midBlk.port (portOther .p1)).state = .up ∧ (blk0.port .p2).state ≠ .up ∧
    midBlk.occ .control + 2 ≤ midBlk.profile.limit .control ∧ 2 + (24 - midBlk.occ .safety) ≤ midBlk.free := by decide

theorem witness_Copies_originated : aloneBlk.consist.table = none ∧ midBlk.consist.table = some (train 2) ∧
    (Mode.lead ≠ .neighbour) ∧ (localDue 2 .all 0 0 = true) ∧ (localDue 2 .position 3 3 = false) ∧
    byte (portNum .p1) = 1 := by decide

theorem witness_MarksAndErrors : ((2 : Byte).toNat = 1 ∨ (2 : Byte).toNat = 2) ∧ (3 : Byte).toNat ≠ 2 ∧
    ((8 : Ident) = aloneBlk.profile.identity ∧ (8 : Ident) ≠ 0 ∧ (1 : Byte).toNat = portNum .p1) ∧
    (blk0.port .p1).state = .dead ∧ (midBlk.port .p1).state = .up ∧ (midBlk.port .p1).nbrId = 7 ∧
    (midBlk.port .p1).nbrEnd = 2 ∧ (midBlk.port .p1).nbrId ≠ 6 ∧
    ({ state := .settling, nbrId := 7, nbrEnd := 2, settle := 19 } : LinkPort).settle = 19 := by decide

theorem witness_LinkLost : (midBlk.port .p1).silence = .running 0 ∧ (midBlk.port .p1).state = .up ∧
    (blk0.port .p1).silence = .stopped ∧
    (after (.markReceived .p1 9 2) State.reset).blk.port1.silence = .running 0 := by decide

/-- The loss of P1 with a SEND's only copy in its queue counts the copy lost and completes the slot. -/
theorem test_lost_copy : ((after (.silenceTimerExpiry .p1) (let s := reporting aloneBlk (.send 5)
    { s with blk := { s.blk with port1 := { s.blk.port1 with state := .up, silence := .running 0 } } })).ifc.slot 0).d2 =
    1 := by decide

theorem witness_QualityWindows : (midBlk.port .p1).state = .up ∧ (faultedBlk.port .p1).state = .faulted ∧
    midBlk.profile.q < (9 : Word).toNat ∧ ¬ (midBlk.profile.q < (8 : Word).toNat) := by decide

theorem witness_SweepAtLead : leadBlk.isUp (portOther .p1) = true ∧
    ({ leadBlk with port2 := {} } : Blocks).isUp (portOther .p1) = false ∧
    (leadIn (.awaitReturn 3)).consist.sweep = .awaitReturn 3 ∧ leadBlk.consist.sweepSlot = none ∧
    ({ leadBlk.consist with sweepSlot := some 0 } : Consist).sweepSlot = some 0 := by decide

theorem witness_Timers : blk0.consist.returnT = .stopped ∧ (leadIn (.awaitReturn 1)).consist.returnT = .running 0 ∧
    (leadIn (.awaitReturn 1)).consist.sweep = .awaitReturn 1 ∧ leadBlk.consist.table = some (train 1) ∧
    blk0.consist.periodT = .stopped ∧ leadBlk.consist.periodT = .running 0 ∧ blk0.consist.settleT = .stopped ∧
    (leadIn .resweepWait).consist.settleT = .running 0 ∧ (leadIn .resweepWait).consist.sweep = .resweepWait ∧
    blk0.consist.carryT = .stopped ∧ carryBlk.consist.carryT = .running 0 ∧ carryBlk.consist.sweep = .carrying ∧
    blk0.consist.watchT = .stopped ∧ midBlk.consist.watchT = .running 0 ∧ midBlk.consist.role = .follower ∧
    midBlk.consist.table = some (train 2) ∧ midBlk.consist.sweep = .idle ∧ blk0.summary.age = .stopped ∧
    ({ age := .running 0 } : Judgement).age = .running 0 := by decide

theorem witness_Contest : carryBlk.consist.carry = some { leadId := 7, number := 3, port := .p1, pos := 2 } ∧
    (6 : Ident) < 7 ∧ leadBlk.consist.role = .lead ∧ leadBlk.consist.carry = none ∧ midBlk.consist.carry = none ∧
    midBlk.consist.role = .follower ∧ midBlk.consist.table = some (train 2) ∧ aloneBlk.consist.role = .alone := by
  decide

/-- A SWEEP of lead `y`, number 3, that car 7 sends on its end 2. -/
def sweepTel (y : Byte) : Telegram :=
  tel 1 0x01 0 1 2 0 [y, 0, 0, 0, 3, 1, 7, 0, 0, 0, 1, 2, 2, 0, 100, 10, 20, 0]

theorem witness_SweepTelegram : aloneBlk.hears .p1 (sweepTel 7) { kind := .sweep, cls := .control, mode := .neighbour } :=
  ⟨by decide, by decide⟩

theorem witness_SweepTelegram_verdicts :
    (parseSweep (sweepTel 7).payload).map (fun b => b.entries.map (·.id)) = some [7] ∧
    contestOf aloneBlk.consist 8 7 3 = .passes ∧ contestOf midBlk.consist 8 9 3 = .discards ∧
    contestOf midBlk.consist 8 6 3 = .abandons ∧ (aloneBlk.port .p1).nbrId = 7 ∧ (aloneBlk.port .p1).nbrEnd = 2 := by
  decide

/-- A RETURN of lead 7, number 3, with cars 7, 8 and 9. -/
def returnTel : Telegram :=
  tel 2 0x01 0 2 1 0 [7, 0, 0, 0, 3, 3, 7, 0, 0, 0, 1, 2, 2, 0, 100, 10, 20, 0, 8, 0, 0, 0, 1, 2, 2, 0, 100, 10, 20, 0,
    9, 0, 0, 0, 1, 2, 2, 0, 100, 10, 20, 0]

theorem witness_SweepAnswers :
    carryBlk.hears .p2 returnTel { kind := .ret, cls := .control, mode := .neighbour } ∧
    leadBlk.hears .p2 returnTel { kind := .ret, cls := .control, mode := .neighbour } ∧
    leadBlk.hears .p2 (tel 3 0x01 0 2 2 0 [7, 0, 0, 0, 3, 3, 2]) { kind := .sweepFail, cls := .control, mode := .neighbour } :=
  ⟨⟨by decide, by decide⟩, ⟨by decide, by decide⟩, ⟨by decide, by decide⟩⟩

theorem witness_SweepAnswers_mine :
    (parseSweep returnTel.payload).map (fun b => (b.leadId, b.number, b.entries)) =
      some (7, 3, [car 7, car 8, car 9]) ∧
    carryBlk.consist.role ≠ .lead ∧ (leadIn (.awaitReturn 2)).consist.sweepCounter = 3 ∧
    (leadIn (.awaitReturn 2)).consist.attemptLead = 7 ∧ (leadBlk.port .p2).nbrId = 8 ∧
    (leadBlk.port .p2).nbrEnd = (car 8).towardEnd ∧ distinctIds [car 7, car 8, car 9] = true ∧
    distinctIds [car 7, car 7] = false := by decide

theorem witness_SweepAnswers_discarded :
    aloneBlk.hears .p2 returnTel { kind := .ret, cls := .control, mode := .neighbour } ∧
    aloneBlk.consist.role ≠ .lead ∧ aloneBlk.consist.carry = none ∧ leadBlk.consist.sweep = .idle ∧
    (leadIn .resweepWait).consist.sweep = .resweepWait ∧
    (leadIn .resweepWait).hears .p2 (tel 3 0x01 0 2 2 0 [7, 0, 0, 0, 3, 3, 2])
      { kind := .sweepFail, cls := .control, mode := .neighbour } :=
  ⟨⟨by decide, by decide⟩, by decide, by decide, by decide, by decide, ⟨by decide, by decide⟩⟩

theorem witness_SweepAnswers_reason :
    (leadIn (.awaitReturn 2)).hears .p2 (tel 3 0x01 0 2 2 0 [7, 0, 0, 0, 3, 4, 2])
      { kind := .sweepFail, cls := .control, mode := .neighbour } ∧
    (parseFail [7, 0, 0, 0, 3, 4, 2]).map (fun b => (b.leadId, b.number, b.reason)) = some (7, 3, 4) :=
  ⟨⟨by decide, by decide⟩, by decide⟩

theorem witness_TableTelegrams :
    carryBlk.hears .p1 (tel 4 0x01 0 1 2 0 [7, 0, 0, 0, 3, 6, 3]) { kind := .confirm, cls := .control, mode := .neighbour } ∧
    midBlk.hears .p1 (tel 5 0x01 0 1 2 0 [5]) { kind := .dissolve, cls := .control, mode := .neighbour } :=
  ⟨⟨by decide, by decide⟩, ⟨by decide, by decide⟩⟩

theorem witness_TableTelegrams_mine : carryBlk.consist.pendingTable = some [car 7, car 8, car 9] ∧
    carryBlk.consist.sweep = .carrying ∧ aloneBlk.consist.carry = none ∧ midBlk.consist.role = .follower ∧
    leadBlk.consist.role ≠ .follower ∧ (5 : Byte) = (train 2).gen ∧ (6 : Byte) ≠ (train 2).gen := by decide

theorem witness_Beacons :
    midBlk.hears .p1 (tel 6 0x31 1 1 0 0 [9, 0, 7, 0, 0, 0, 1]) { kind := .beacon, cls := .control, mode := .all } ∧
    (train 2).admits .p1 (tel 6 0x31 1 1 0 0 [9, 0, 7, 0, 0, 0, 1]) { kind := .beacon, cls := .control, mode := .all } ∧
    (0xEA5F : Word).toNat < 60000 :=
  ⟨⟨by decide, by decide⟩, ⟨by decide, by decide, by decide⟩, by decide⟩

theorem witness_Beacons_consumers : (train 3).pos = (train 3).entries.length ∧
    (train 2).pos < (train 2).entries.length ∧ midBlk.isUp (portOther (train 2).toward) = true ∧
    ({ midBlk with port2 := {} } : Blocks).isUp (portOther (train 2).toward) = false ∧
    (10 : Word).toNat % 10 = 0 ∧ (9 : Word).toNat % 10 ≠ 0 ∧
    ({ table := some [{ r := 1, f := 1, s := 1 }] } : Alloc).table = some ({ r := 1, f := 1, s := 1 } :: []) ∧
    ({ mode := .onBeacon } : Monitor).mode = .onBeacon ∧ ({ mode := .onBeacon } : Monitor).scan = .idle ∧
    blk0.monitor.mode ≠ .onBeacon := by decide

theorem witness_Beacons_origination :
    ((Ev.start tailBlk).originate { kind := .summary, cls := .safety, mode := .lead, payload := [] }).2.localTel = none ∧
    ((Ev.start tailBlk).originate { kind := .summary, cls := .safety, mode := .lead, payload := [] }).2.report.placed ≠ 0 ∧
    ((Ev.start { tailBlk with port1 := {} }).originate
      { kind := .summary, cls := .safety, mode := .lead, payload := [] }).2.report.placed = 0 ∧
    ((Ev.start { leadBlk with port2 := {} }).originate
      { kind := .summary, cls := .safety, mode := .lead, payload := [] }).2.localTel.isSome = true := by decide

theorem witness_PortsAndReports :
    leadBlk.hears .p2 (tel 7 0x41 1 2 0 0 [2]) { kind := .brk, cls := .control, mode := .lead } ∧
    (train 1).admits .p2 (tel 7 0x41 1 2 0 0 [2]) { kind := .brk, cls := .control, mode := .lead } ∧
    midBlk.hears .p2 (tel 8 0x41 2 3 0 0 [3, 1]) { kind := .join, cls := .control, mode := .lead } ∧
    (train 2).admits .p2 (tel 8 0x41 2 3 0 0 [3, 1]) { kind := .join, cls := .control, mode := .lead } ∧
    midBlk.hears .p1 (tel 8 0x41 2 1 0 0 [1, 1]) { kind := .join, cls := .control, mode := .lead } ∧
    (train 2).admits .p1 (tel 8 0x41 2 1 0 0 [1, 1]) { kind := .join, cls := .control, mode := .lead } :=
  ⟨⟨by decide, by decide⟩, ⟨by decide, by decide, by decide⟩, ⟨by decide, by decide⟩,
   ⟨by decide, by decide, by decide⟩, ⟨by decide, by decide⟩, ⟨by decide, by decide, by decide⟩⟩

theorem witness_PortsAndReports_roles : midBlk.consist.carry = none ∧ (train 2).toward = .p1 ∧
    (train 2).pos < (train 2).entries.length ∧ (train 3).entries.length ≤ (train 3).pos ∧ (train 1).pos = 1 ∧
    1 < (train 1).entries.length ∧ ({ train 1 with entries := [car 7] } : LiveTable).entries.length ≤ 1 := by decide

/-- A follower that carries a sweep of lead 6 from its P2. -/
def carryFollower : Blocks :=
  { midBlk with consist := { midBlk.consist with
      sweep := .carrying, carryT := .running 0, watchT := .stopped
      carry := some { leadId := 6, number := 1, port := .p2, pos := 3 } } }

theorem witness_PortsAndReports_carrying : carryBlk.consist.carry ≠ none ∧ carryBlk.consist.role = .alone ∧
    carryBlk.consist.pendingTable ≠ none ∧ carryFollower.consist.carry = some { leadId := 6, number := 1, port := .p2, pos := 3 } ∧
    carryFollower.consist.role = .follower ∧ carryFollower.consist.table = some (train 2) ∧
    carryFollower.consist.pendingTable = none ∧ (train 2).toward = .p1 ∧ tailBlk.consist.table = some (train 3) ∧
    (leadIn .resweepWait).consist.sweep = .resweepWait ∧ (leadIn .resweepWait).consist.carry = none ∧
    (leadIn .resweepWait).consist.role = .lead ∧ (leadIn .resweepWait).consist.table = some (train 1) ∧
    aloneBlk.consist.table = none ∧ aloneBlk.consist.carry = none := by decide

/-- A car whose first left door is CLOSING with its timer at `t`; `due` is its limit due, if any. The close limit is
100 ticks. -/
def closingBlk (t : Word) (due : Option Word) : Blocks :=
  { midBlk with doors := { left := { closeReq := true, doors :=
      { (Quad.const {} : Quad DoorRec) with x0 := { state := .closing, timer := t, limitDue := due } } } } }

/-- The tick that brings a door to its limit. -/
def atLimit : State := after .tick (on (closingBlk 99 none))

theorem test_limit_due : (atLimit.blk.doors.left.doors.get 0).limitDue = some 100 ∧
    (atLimit.blk.doors.left.doors.get 0).state = .closing := by decide
theorem test_limit_late : ((after (.closeLimitReached .left 0) atLimit).blk.doors.left.doors.get 0).state = .late := by
  decide
/-- R91, the tick first: LATE, DOOR_LATE and a publication, then CLOSED with the limit and another publication. -/
theorem test_tick_then_contact : let t := after (.contactMakes .left 0) atLimit
    (t.blk.doors.left.doors.get 0).state = .closed ∧ (t.blk.doors.left.doors.get 0).lastClose = 100 ∧
      t.ifc.queues.x0.fill = 1 ∧ (t.ifc.page .door).u = (State.reset.ifc.page .door).u + 2 := by decide
/-- R91, the contact make first: CLOSED with a time one below the limit, and no LATE. -/
theorem test_contact_then_tick : let t := after .tick (after (.contactMakes .left 0) (on (closingBlk 99 none)))
    (t.blk.doors.left.doors.get 0).state = .closed ∧ (t.blk.doors.left.doors.get 0).lastClose = 99 ∧
      t.ifc.queues.x0.fill = 0 := by decide
/-- R91: an adopted limit below the timer acts at the next tick, not before. -/
theorem test_limit_lowered : after (.closeLimitReached .left 0) (on (closingBlk 500 none)) = on (closingBlk 500 none) ∧
    ((after (.closeLimitReached .left 0) (after .tick (on (closingBlk 500 none)))).blk.doors.left.doors.get 0).state =
      .late := by decide
/-- R91: a tick taken while a limit is due takes it first. -/
theorem test_limit_next_tick : ((after .tick atLimit).blk.doors.left.doors.get 0).state = .late ∧
    ((after .tick atLimit).blk.doors.left.doors.get 0).timer = 101 := by decide

theorem witness_DoorContacts : (1 : Fin 4).val < midBlk.profile.doorCount .left ∧
    midBlk.profile.doorCount .left ≤ (2 : Fin 4).val ∧ ((closingBlk 100 (some 100)).doors.left.doors.get 0).state = .closing ∧
    ((closingBlk 100 (some 100)).doors.left.doors.get 0).limitDue = some 100 ∧
    (0 : Fin 4).val < (closingBlk 100 (some 100)).profile.doorCount .left ∧
    (midBlk.doors.left.doors.get 0).limitDue = none ∧ (midBlk.doors.left.doors.get 0).state ≠ .closing ∧
    blk0.carDoors.any (fun x => x.state == .opened) = false := by decide

theorem witness_DoorContacts_limit :
    exec (.closeLimitReached .left 0) atLimit = .next (after (.closeLimitReached .left 0) atLimit) := rfl

theorem witness_DoorSides : midBlk.profile.doorCount .left ≠ 0 ∧ blk0.profile.doorCount .left = 0 ∧
    midBlk.motion.state = .unfitted ∧ blk0.doors.left.release = false ∧
    (after (.doorTelegram .p1 (tel 9 0x30 2 1 0 0 [1, 1, 1])) (on tailBlk)).blk.doors.left.release = true := by decide

theorem witness_DoorTelegram :
    midBlk.hears .p1 (tel 9 0x20 2 1 2 3 [1, 1, 1]) { kind := .door, cls := .safety, mode := .range } ∧
    (train 2).admits .p1 (tel 9 0x20 2 1 2 3 [1, 1, 1]) { kind := .door, cls := .safety, mode := .range } ∧
    addressed (train 2) .range 2 3 = true ∧ addressed (train 2) .range 1 2 = true :=
  ⟨⟨by decide, by decide⟩, ⟨by decide, by decide, by decide⟩, by decide, by decide⟩

theorem witness_DoorTelegram_elsewhere :
    midBlk.hears .p1 (tel 9 0x20 2 1 3 3 [1, 1, 1]) { kind := .door, cls := .safety, mode := .range } ∧
    (train 2).admits .p1 (tel 9 0x20 2 1 3 3 [1, 1, 1]) { kind := .door, cls := .safety, mode := .range } ∧
    addressed (train 2) .range 3 3 = false ∧ dueForward (train 2) .p1 .range 3 3 = true ∧
    addressed (train 2) .range 1 1 = false ∧ dueForward (train 2) .p1 .range 1 1 = false :=
  ⟨⟨by decide, by decide⟩, ⟨by decide, by decide, by decide⟩, by decide, by decide, by decide, by decide⟩

theorem witness_SummaryTotals : ([] : List Nat).length ≤ 4 ∧ ascending [3, 4, 5, 6] = true ∧
    (∀ p ∈ [3, 4, 5, 6], 2 < p) := by decide

/-- A SUMMARY of beacon 8 from position `q`, `n` cars covered, nothing open. -/
def summaryTel (q n hops : Byte) : Telegram := tel 10 0x40 hops q 0 0 [8, 0, n, 0, 0, 0, 0, 0, 0, 0, 0, 0, 0, 0]

theorem witness_SummaryTelegram :
    leadBlk.hears .p2 (summaryTel 2 2 1) { kind := .summary, cls := .safety, mode := .lead } ∧
    (train 1).admits .p2 (summaryTel 2 2 1) { kind := .summary, cls := .safety, mode := .lead } ∧
    midBlk.hears .p2 (summaryTel 3 1 1) { kind := .summary, cls := .safety, mode := .lead } ∧
    (train 2).admits .p2 (summaryTel 3 1 1) { kind := .summary, cls := .safety, mode := .lead } :=
  ⟨⟨by decide, by decide⟩, ⟨by decide, by decide, by decide⟩, ⟨by decide, by decide⟩,
   ⟨by decide, by decide, by decide⟩⟩

theorem witness_SummaryTelegram_content : (leadBlk.acceptedTotal (summaryTel 2 2 1)).isSome = true ∧
    leadBlk.acceptedTotal (summaryTel 2 3 1) = none ∧ (midBlk.acceptedTotal (summaryTel 3 1 1)).isSome = true ∧
    midBlk.acceptedTotal (summaryTel 3 2 1) = none := by decide

theorem witness_SummaryTelegram_misrouted :
    midBlk.hears .p1 (summaryTel 1 1 1) { kind := .summary, cls := .safety, mode := .lead } ∧
    (train 2).admits .p1 (summaryTel 1 1 1) { kind := .summary, cls := .safety, mode := .lead } ∧
    (train 2).toward = .p1 :=
  ⟨⟨by decide, by decide⟩, ⟨by decide, by decide, by decide⟩, by decide⟩

theorem witness_ChannelResult : ({} : Channel).state ≠ .unused ∧ ({ run := 5, state := .unavailable } : Channel).run ≤ 5 := by
  decide

theorem witness_Converter : blk0.converter.phase = .refA ∧ blk0.converter.chB.state = .unused ∧
    ({ phase := .refB, chB := {} } : Converter).chB.state ≠ .unused ∧
    (after (.referencePhaseComplete 5) (on blk0)).blk.converter.phase = .senseA ∧
    ({ phase := .senseB, chB := {} } : Converter).phase = .senseB := by decide

theorem witness_SupplyMonitor : blk0.monitor.scan = .idle ∧ blk0.monitor.period = .stopped ∧
    (after (.monitor 0 1 0 3 1) (on blk0)).blk.monitor.scan = .scanning 0 [] ∧
    (after (.monitor 0 1 0 3 1) (on blk0)).blk.monitor.waitSlot = some 0 ∧
    (after (.monitor 0 1 0 3 1) (on blk0)).blk.monitor.mode = .once ∧
    (after (.monitor 0 1 0 3 2) (on blk0)).blk.monitor.mode ≠ .once ∧
    (after (.monitor 0 1 0 3 2) (on blk0)).blk.monitor.period = .running 0 ∧ blk0.profile.hcuScale ≤ 400 := by decide

theorem witness_DemandTelegram :
    leadBlk.hears .p2 (tel 11 0x42 1 2 0 0 [50, 0x90, 1, 3]) { kind := .demand, cls := .power, mode := .lead } ∧
    (train 1).admits .p2 (tel 11 0x42 1 2 0 0 [50, 0x90, 1, 3]) { kind := .demand, cls := .power, mode := .lead } ∧
    (packWord 0x90 1).toNat ≤ 400 ∧ 400 < (packWord 0x91 1).toNat ∧ (3 : Byte).toNat ≤ 3 ∧ 3 < (4 : Byte).toNat ∧
    midBlk.hears .p2 (tel 11 0x42 2 3 0 0 [50, 0, 0, 0]) { kind := .demand, cls := .power, mode := .lead } ∧
    (train 2).admits .p2 (tel 11 0x42 2 3 0 0 [50, 0, 0, 0]) { kind := .demand, cls := .power, mode := .lead } :=
  ⟨⟨by decide, by decide⟩, ⟨by decide, by decide, by decide⟩, by decide, by decide, by decide, by decide,
   ⟨by decide, by decide⟩, ⟨by decide, by decide, by decide⟩⟩

theorem witness_DemandTelegram_misrouted :
    midBlk.hears .p1 (tel 11 0x42 2 1 0 0 [50, 0, 0, 0]) { kind := .demand, cls := .power, mode := .lead } ∧
    (train 2).admits .p1 (tel 11 0x42 2 1 0 0 [50, 0, 0, 0]) { kind := .demand, cls := .power, mode := .lead } :=
  ⟨⟨by decide, by decide⟩, ⟨by decide, by decide, by decide⟩⟩

theorem witness_Allocation : (5 : Word).toNat % 10 = 5 ∧ (4 : Word).toNat % 10 ≠ 5 ∧ blk0.alloc.budgetSet = false ∧
    (after (.budget 0 1 8000 0) (on blk0)).blk.alloc.budgetSet = true := by decide

/-- The three cases of the grant computation on one table: fit, scaled, shortfall. -/
theorem witness_GrantLaw :
    ((computeGrants 10000 [{ r := 10, f := 50, s := 200 }, { r := 0, f := 9, s := 9 }]).map (·.g),
     (computeGrants 1000 [{ r := 10, f := 50, s := 200 }, { r := 0, f := 9, s := 9 }]).map (·.g),
     (computeGrants 400 [{ r := 10, f := 50, s := 200 }, { r := 0, f := 9, s := 9 }]).map (·.g)) =
    ([200, 0], [99, 0], [40, 0]) := by decide

theorem witness_Grants :
    tailBlk.hears .p1 (tel 12 0x32 1 1 0 0 [1, 0, 9, 0, 3, 0, 11, 12, 13]) { kind := .grant, cls := .power, mode := .all } ∧
    (train 3).admits .p1 (tel 12 0x32 1 1 0 0 [1, 0, 9, 0, 3, 0, 11, 12, 13]) { kind := .grant, cls := .power, mode := .all } ∧
    ({ status := .fresh, age := 300 } : Heater).status = .fresh ∧ 300 ≤ (300 : Word).toNat ∧ (299 : Word).toNat < 300 :=
  ⟨⟨by decide, by decide⟩, ⟨by decide, by decide, by decide⟩, by decide, by decide, by decide⟩

theorem witness_HeaterCycle : (255 : Nat) ≤ 255 ∧ blk0.heater.cut = false ∧
    blk0.heater.onCounts = onCounts blk0.heater.mode 0 ∧ blk0.heater.offset < 64 ∧
    onCounts .quad 255 = [64, 64, 64, 63] ∧ onCounts .dual 255 = [128, 127] := by decide

theorem witness_HeaterCycle_due : blk0.heater.cycleDue = false ∧
    (after .tick (on lastSlotBlk)).blk.heater.cycleDue = true ∧ (3 : Nat) < 4 ∧ (63 : Nat) < 64 ∧ (127 : Nat) < 128 ∧
    Heater.htr { blk0.heater with onCounts := [64, 64, 64, 63], slot := 255, offset := 0 } = false ∧
    Heater.htr { blk0.heater with onCounts := [64, 64, 64, 63], slot := 255, offset := 1 } = true := by decide

theorem witness_Arrival : (blk0.port .p1).state ≠ .up ∧ (midBlk.port .p1).state = .up ∧
    headerSanity (tel 14 0 0 0 0 0 []) = none ∧
    midBlk.hears .p1 (tel 13 0x31 1 3 0 0 []) { kind := .data, cls := .control, mode := .all } ∧
    (train 2).toward = .p1 ∧ (train 2).pos ≤ (3 : Byte).toNat ∧ (1 : Byte).toNat ≤ (train 2).pos ∧
    aloneBlk.consist.table = none :=
  ⟨by decide, by decide, by decide, ⟨by decide, by decide⟩, by decide, by decide, by decide, by decide⟩

theorem witness_Relaying : 1 ≤ (train 2).pos ∧ (train 2).pos ≤ (train 2).entries.length ∧
    midBlk.hears .p1 (tel 13 0x31 1 1 0 0 []) { kind := .data, cls := .control, mode := .all } ∧
    (train 2).admits .p1 (tel 13 0x31 1 1 0 0 []) { kind := .data, cls := .control, mode := .all } ∧
    addressed (train 2) .all 0 0 = true ∧ dueForward (train 2) .p1 .all 0 0 = true ∧
    dueForward (train 3) .p1 .all 0 0 = false ∧ addressed (train 2) .position 3 3 = false ∧
    dueForward (train 2) .p1 .position 3 3 = true ∧ dueForward (train 2) .p1 .position 4 4 = false :=
  ⟨by decide, by decide, ⟨by decide, by decide⟩, ⟨by decide, by decide, by decide⟩, by decide, by decide, by decide,
   by decide, by decide, by decide⟩

theorem witness_Relaying_alone :
    aloneBlk.hears .p1 { tel 13 0x01 0 0 1 0 [] with hdr := { (tel 13 0x01 0 0 1 0 []).hdr with gen := 0 } }
      { kind := .data, cls := .control, mode := .neighbour } :=
  ⟨by decide, by decide⟩

theorem witness_ReadBack : entrySane (car 7) 0 = true ∧ slotRow (.setCab 3 9 1) = some (3, 9, 2, [1]) ∧
    (tel 13 0x01 0 0 1 0 []).hdr.plen.toNat ≤ 464 := by decide

theorem witness_ReadBack_frames :
    (0 : Word) ≠ frameCheck (telegramType :: telegramBytes (tel 13 0x01 0 0 1 0 [])) := by decide +kernel

theorem witness_ReadBack_errors : (0x54 : Byte) ≠ 0x55 ∧ (0xD2 : Byte) ≠ 0xD3 ∧ (0 : Byte) ≠ markType ∧
    (3 : Byte) ≠ telegramType ∧ 464 < ({ (tel 13 0x01 0 0 1 0 []).hdr with plen := 465 } : Header).plen.toNat ∧
    (markContent 9 2).length = 5 ∧ 9 < (markContent 9 2).length + 5 ∧ 20 ≤ 20 ∧
    (tel 13 0x01 0 0 1 0 [1, 2]).hdr.plen.toNat = (tel 13 0x01 0 0 1 0 [1, 2]).payload.length := by decide

theorem witness_MotionCounter_due : midBlk.motion.windowDue = false ∧
    (after .tick (on { midBlk with motion := { windowTicks := 9 } })).blk.motion.windowDue = true := by decide

/-- A car without a sensor whose left release is on by a stationary flag. -/
def releasedBlk : Blocks := { midBlk with doors := { left := { release := true, basis := .flag } } }

theorem witness_ReleaseKept : releasedBlk.releaseSafe := by
  refine ⟨by decide, fun s => ?_⟩
  cases s
  · exact ⟨fun _ => .inr ⟨rfl, .inl rfl⟩, fun h => absurd h.2 (by decide)⟩
  · exact ⟨fun h => absurd h (by decide), fun h => absurd h.1 (by decide)⟩

theorem witness_InterfaceKept : heldState.ifc.queuesBounded ∧ heldState.host.wf = true ∧ heldState.host.hostOnly := by
  refine ⟨?_, by decide, ?_⟩
  · intro q
    revert q
    decide
  · intro c hc
    revert c
    decide

theorem witness_ConsistKept : midBlk.consist.wf ∧ carryBlk.consist.wf ∧ leadBlk.consist.wf :=
  ⟨⟨by show 2 ≤ 2 ∧ 2 ≤ 3 ∧ 3 ≤ 32 ∧ _; exact ⟨by decide, by decide, by decide, rfl⟩, rfl⟩,
   ⟨rfl, by
     refine ⟨by decide, by decide, by decide, ?_⟩
     intro xs h
     injection h with h
     subst h
     exact ⟨by decide, by decide⟩⟩,
   ⟨⟨rfl, by decide, by decide, rfl⟩, rfl⟩⟩

theorem witness_PoolKept : (reporting blk0 .once).blk.poolSafe := by
  refine ⟨by decide, fun c q hq => ?_, fun c q hq => ?_⟩
  · cases c <;> revert q <;> decide
  · cases c <;> revert q <;> decide

theorem witness_RangesKept : ({ midBlk with motion := { state := .stopped, count := -32767, quiet := 3 } } : Blocks).motion.inRange ∧
    midBlk.profile.inRange := by
  refine ⟨?_, ?_⟩
  · unfold Motion.inRange
    decide
  · unfold Profile.inRange
    decide

end Sys2Proof.Tests
end

section
/-! PROOF. The releases (R88, R99, R100) through every event of the blocks: no step leaves a release on without its condition. -/

namespace Sys2Proof.Machine

/-! ## What R88 and R100 read -/

/-- The items that R88 and R100 read stand: the sensor, the motion state, and of each side its release, its
close request and its basis. -/
structure ReleaseItemsKept (b b' : Blocks) : Prop where
  sensor : b'.profile.sensor = b.profile.sensor
  motion : b'.motion.state = b.motion.state
  release : ∀ s, (b'.doors.side s).release = (b.doors.side s).release
  closeReq : ∀ s, (b'.doors.side s).closeReq = (b.doors.side s).closeReq
  basis : ∀ s, (b'.doors.side s).basis = (b.doors.side s).basis

theorem ReleaseItemsKept.safe {b b' : Blocks} (k : ReleaseItemsKept b b') (h : b.releaseSafe) : b'.releaseSafe := by
  obtain ⟨hfit, hsides⟩ := h
  refine ⟨by rw [k.motion, k.sensor]; exact hfit, fun s => ?_⟩
  unfold SideRec.releaseSafe SideRec.exclusive
  rw [k.release, k.closeReq, k.basis, k.sensor, k.motion]
  exact hsides s

/-- An operation of the train or the lines keeps the releases safe, since it touches none of these items. -/
theorem BodyKept.safe {e e' : Ev} (h : BodyKept e e') (hs : e.toBlocks.releaseSafe) : e'.toBlocks.releaseSafe :=
  h.sides.safe hs

theorem RelayOnly.safe {e e' : Ev} (k : RelayOnly e e') (h : e.toBlocks.releaseSafe) : e'.toBlocks.releaseSafe :=
  k.kept.toBodyKept.safe h

/-! ## Reset and tick (R181, R164) -/

/-- After a reset there is no sensor, the motion state is UNFITTED and no release is on. -/
theorem Blocks.afterReset_safe (b : Blocks) : b.afterReset.releaseSafe := by
  refine ⟨⟨fun _ => rfl, fun _ => rfl⟩, fun s => ?_⟩
  cases s
  · exact SideRec.safe_of_off rfl
  · exact SideRec.safe_of_off rfl

theorem Ev.startCycle_sides (e : Ev) : SidesKept e e.startCycle := (SidesKept.setHeater e _).trans (.ask _ _)

theorem Ev.release_sides (e : Ev) : SidesKept e e.release :=
  (((BodyKept.setPort e .p1 _).trans (.setPort _ .p2 _)).sides.trans (Ev.startCycle_sides _)).trans (.ask _ _)

theorem Ev.cycleStart_sides (e : Ev) : SidesKept e e.cycleStart := by
  unfold Ev.cycleStart
  split
  · exact Ev.startCycle_sides e
  · exact .refl e

/-- The time base advances the close timers of the doors and the window grid, and no item of a side. -/
theorem Ev.timeBase_items (e : Ev) : ReleaseItemsKept e.toBlocks e.timeBase.toBlocks where
  sensor := rfl
  motion := rfl
  release s := by cases s <;> rfl
  closeReq s := by cases s <;> rfl
  basis s := by cases s <;> rfl

theorem Ev.tickAll_safe (e : Ev) (h : e.toBlocks.releaseSafe) : e.tickAll.toBlocks.releaseSafe :=
  (Ev.timeBase_items e.closeLimits).safe (Ev.closeLimits_safe e h)

/-! ## Adoption (R82, R93, R99, R180) -/

/-- The profile replaced whole (R180). -/
def Ev.setProfile (e : Ev) (g : Profile) : Ev := { e with profile := g }

/-- The steps of an adoption that act on what R88 and R100 read: the profile, the motion counter (R82), the
doors (R93) and the withdrawal for a newly fitted sensor (R99). -/
def Ev.adoptSides (e : Ev) (g : Profile) : Ev :=
  let e1 := (e.setProfile g).adoptMotion e.profile.z
  (e1.adoptDoors { e1.toBlocks with profile := e.profile }).fittedWithdraw e.motion.state

/-- An adoption is those steps, then the heating's and the JOIN. -/
theorem Ev.adopt_eq (e : Ev) (g : Profile) :
    e.adopt g =
      if e.toBlocks.joinDue e.profile g then
        (((e.adoptSides g).adoptLimit e.profile.otLimit).adoptStandby e.profile.s).join .profileChanged
      else ((e.adoptSides g).adoptLimit e.profile.otLimit).adoptStandby e.profile.s := rfl

/-- The signal of R83 leaves the profile and the motion record. -/
theorem Ev.motionSignal_frame (e : Ev) (old : MotionState) :
    (e.motionSignal old).profile = e.profile ∧ (e.motionSignal old).motion = e.motion := by
  unfold Ev.motionSignal
  split
  · obtain ⟨hp, hm, -, -⟩ := Ev.withdraw_off e
    exact ⟨hp, hm⟩
  · exact ⟨rfl, rfl⟩

/-- The motion counter's part of an adoption leaves the profile, and the motion record is that of R82. -/
theorem Ev.adoptMotion_frame (e : Ev) (z : Nat) :
    (e.adoptMotion z).profile = e.profile ∧
      (e.adoptMotion z).motion = e.motion.adopt e.profile.sensor (decide (z ≠ e.profile.z)) :=
  Ev.motionSignal_frame _ _

/-- After it the motion state is UNFITTED exactly without a sensor (R82), whatever it was. -/
theorem Ev.adoptMotion_fits (e : Ev) (z : Nat) :
    (e.adoptMotion z).motion.state = .unfitted ↔ (e.adoptMotion z).profile.sensor = false := by
  obtain ⟨hp, hm⟩ := Ev.adoptMotion_frame e z
  rw [hp, hm]
  exact Motion.adopt_fits _ _ _

/-- Where no sensor is newly fitted: the signal of R83 withdraws what a sensor's STOPPED carried, and a
release without a sensor stands on its basis. -/
theorem Ev.adoptMotion_safe (e : Ev) (g : Profile) (z : Nat) (h : e.toBlocks.releaseSafe)
    (hg : e.motion.state = .unfitted → g.sensor = false) :
    ((e.setProfile g).adoptMotion z).toBlocks.releaseSafe := by
  have hfit := Motion.adopt_fits e.motion g.sensor (decide (z ≠ g.z))
  unfold Ev.adoptMotion Ev.motionSignal
  split
  · exact Ev.withdraw_safe _ hfit
  · next hn =>
    refine ⟨hfit, fun s => ⟨fun hr => ?_, (h.side s).2⟩⟩
    rcases (h.side s).1 hr with ⟨-, hstop⟩ | ⟨hnone, hbasis⟩
    · have hstop' : (e.motion.adopt g.sensor (decide (z ≠ g.z))).state = .stopped :=
        Decidable.byContradiction fun hx => hn ⟨hstop, hx⟩
      have hs : g.sensor ≠ false := fun hf => by
        rw [hfit.2 hf] at hstop'
        exact absurd hstop' (by decide)
      exact .inl ⟨Bool.eq_true_of_not_eq_false hs, hstop'⟩
    · exact .inr ⟨hg (h.1.2 hnone), hbasis⟩

theorem Ev.adoptDoors_items (e : Ev) (b : Blocks) : ReleaseItemsKept e.toBlocks (e.adoptDoors b).toBlocks := by
  obtain ⟨hp, hm, hs⟩ := Ev.adoptDoors_flags e b
  exact { sensor := congrArg Profile.sensor hp
          motion := congrArg Motion.state hm
          release := fun s => (hs s).1
          closeReq := fun s => (hs s).2.1
          basis := fun s => (hs s).2.2 }

/-- The withdrawal for a newly fitted sensor needs the releases safe only where it does not act. -/
theorem Ev.fittedWithdraw_safe (e : Ev) (old : MotionState)
    (hfit : e.motion.state = .unfitted ↔ e.profile.sensor = false)
    (h : ¬(old = .unfitted ∧ e.motion.state = .unknown) → e.toBlocks.releaseSafe) :
    (e.fittedWithdraw old).toBlocks.releaseSafe := by
  unfold Ev.fittedWithdraw
  split
  · exact Ev.withdraw_safe e hfit
  · next hn => exact h hn

/-- Between the motion counter and the withdrawal a release on a flag or an attestation can stand beside a
newly fitted sensor. Then the state has gone from UNFITTED to UNKNOWN, and the withdrawal takes it back. -/
theorem Ev.adoptSides_safe (e : Ev) (g : Profile) (h : e.toBlocks.releaseSafe) :
    (e.adoptSides g).toBlocks.releaseSafe := by
  have hfit := Ev.adoptMotion_fits (e.setProfile g) e.profile.z
  have hm := (Ev.adoptMotion_frame (e.setProfile g) e.profile.z).2
  have k := Ev.adoptDoors_items ((e.setProfile g).adoptMotion e.profile.z)
    { ((e.setProfile g).adoptMotion e.profile.z).toBlocks with profile := e.profile }
  refine Ev.fittedWithdraw_safe _ _ (by rw [k.motion, k.sensor]; exact hfit) fun hn => ?_
  refine k.safe (Ev.adoptMotion_safe e g _ h fun hu => ?_)
  by_contra hs
  refine hn ⟨hu, ?_⟩
  rw [k.motion, hm]
  exact Motion.adopt_fitted hu fun hx => hs ((Motion.adopt_fits _ _ _).1 hx)

theorem Ev.adopt_safe (e : Ev) (g : Profile) (h : e.toBlocks.releaseSafe) : (e.adopt g).toBlocks.releaseSafe := by
  have h1 := ((Ev.adoptLimit_sides _ e.profile.otLimit).trans (Ev.adoptStandby_sides _ e.profile.s)).safe
    (Ev.adoptSides_safe e g h)
  rw [Ev.adopt_eq]
  split
  · exact (Ev.join_car _ _).toBodyKept.safe h1
  · exact h1

theorem Ev.adoptProfile_safe (e : Ev) (m : Memory) (h : e.toBlocks.releaseSafe) :
    (e.adoptProfile m).1.toBlocks.releaseSafe := by
  unfold Ev.adoptProfile
  dsimp only
  split
  · exact h
  · split
    · exact h
    · split
      · exact h
      · exact Ev.adopt_safe e _ h

/-! ## Slot commands (R169) -/

theorem Ev.dispatch_safe (e : Ev) (m : Memory) (n : Fin 16) (c : SlotCmd) (h : e.toBlocks.releaseSafe) :
    (e.dispatch m n c).1.toBlocks.releaseSafe := by
  cases c with
  | adoptProfile => exact Ev.adoptProfile_safe e m h
  | setCab x => exact (Ev.setCab_car e x).toBodyKept.safe h
  | startSweep => exact (Ev.startSweep_car e n).toBodyKept.safe h
  | send cls mode lo hi flags plen rest => exact (Ev.sendCommand_kept e n _ _ _ _ _ _ _).toBodyKept.safe h
  | door action scope side lo hi number attest => exact Ev.doorCommand_safe e _ h
  | heatSet setpoint gain boost => exact (Ev.heatSet_sides e _ _ _).safe h
  | budget b vlow => exact (Ev.budget_sides e _ _).safe h
  | monitor start stop mode => exact (Ev.monitorCommand_sides e n _ _ _).safe h
  | restoreLink port => exact (Ev.restoreLink_kept e port).toBodyKept.safe h

/-! ## Arrival (R52 to R58, R101) -/

/-- Of the consumers only the door block acts on a release. -/
theorem Ev.consume_safe (e : Ev) (k : Kind) (t : Telegram) (h : e.toBlocks.releaseSafe) :
    (e.consume k t).toBlocks.releaseSafe := by
  cases k with
  | door => exact Ev.takeDoor_safe e _ h
  | beacon =>
    unfold Ev.consume
    dsimp only
    split
    · exact (Ev.takeBeacon_car e _).toBodyKept.safe h
    · exact h
  | brk => exact (Ev.takeReport_car e).toBodyKept.safe h
  | join => exact (Ev.takeReport_car e).toBodyKept.safe h
  | summary => exact (Ev.takeSummary_kept e t).toBodyKept.safe h
  | demand => exact (Ev.takeDemand_kept e t).toBodyKept.safe h
  | grant => exact (Ev.takeGrant_kept e _).toBodyKept.safe h
  | data => exact h
  | sweep => exact h
  | ret => exact h
  | sweepFail => exact h
  | confirm => exact h
  | dissolve => exact h

theorem Ev.handOff_safe (e : Ev) (p : Port) (k : Kind) (t : Telegram) (h : e.toBlocks.releaseSafe) :
    (e.handOff p k t).toBlocks.releaseSafe :=
  (RelayOnly.offer _ _ t).safe (Ev.consume_safe e k t h)

theorem Ev.route_safe (e : Ev) (t : LiveTable) (p : Port) (k : Sane) (x : Telegram) (h : e.toBlocks.releaseSafe) :
    (e.route t p k x).toBlocks.releaseSafe := by
  have hhand : (e.handOff p k.kind x).toBlocks.releaseSafe := Ev.handOff_safe e p k.kind x h
  have hon : ∀ e' : Ev, e'.toBlocks.releaseSafe → (e'.forward p k.cls x).toBlocks.releaseSafe := fun e' =>
    (Ev.forward_frame e' p k.cls x).safe
  unfold Ev.route
  dsimp only
  split
  · exact hhand
  · split
    · exact (Ev.drop_frame e p k.cls).safe h
    · split <;> split
      · exact hon _ hhand
      · exact hon _ h
      · exact hhand
      · exact h

theorem Ev.arriveSane_safe (e : Ev) (p : Port) (k : Sane) (x : Telegram) (h : e.toBlocks.releaseSafe) :
    (e.arriveSane p k x).toBlocks.releaseSafe := by
  have hdrop : (e.drop p k.cls).toBlocks.releaseSafe := (Ev.drop_frame e p k.cls).safe h
  have hhand : (e.handOff p k.kind x).toBlocks.releaseSafe := Ev.handOff_safe e p k.kind x h
  unfold Ev.arriveSane
  split
  · exact (RelayOnly.offer _ _ x).safe ((Ev.takeFamily_car e p k.kind x.payload).toBodyKept.safe h)
  · split
    · split
      · exact hhand
      · split
        · exact hhand
        · split
          · exact Ev.route_safe e _ p k x h
          · exact hdrop
    · exact hdrop

theorem Ev.arrive_safe (e : Ev) (p : Port) (x : Telegram) (h : e.toBlocks.releaseSafe) :
    (e.arrive p x).toBlocks.releaseSafe := by
  unfold Ev.arrive
  split
  · split
    · exact Ev.arriveSane_safe e p _ x h
    · exact (BodyKept.setPort e p _).safe h
  · exact h

/-! ## Timers of the consist block (R38 to R42, R47) -/

theorem Ev.returnExpiry_car (e : Ev) : CarKept e e.returnExpiry := by
  unfold Ev.returnExpiry
  split
  · exact Ev.retryOrFail_car e _ _ _ _
  · exact .refl e

theorem Ev.carryExpiry_car (e : Ev) : CarKept e e.carryExpiry := by
  unfold Ev.carryExpiry
  split
  · exact Ev.endCarry_car e
  · exact .refl e

theorem Ev.beaconExpiry_car (e : Ev) : CarKept e e.beaconExpiry := by
  unfold Ev.beaconExpiry
  split
  · exact Ev.startBeacons_car e
  · exact .refl e

theorem Ev.watchExpiry_car (e : Ev) : CarKept e e.watchExpiry := by
  unfold Ev.watchExpiry
  split
  · exact Ev.loseTable_car e _ _
  · exact .refl e

theorem Ev.settleExpiry_car (e : Ev) : CarKept e e.settleExpiry := by
  unfold Ev.settleExpiry
  split
  · exact Ev.beginAttempt_car e _ _
  · exact .refl e

/-! ## Every event, every step -/

theorem Blocks.detach_safe (b : Blocks) (h : b.releaseSafe) : b.detach.releaseSafe :=
  Blocks.releaseSafe_congr rfl rfl rfl rfl h

/-- R88 and R100 through every event: those of the doors, the motion counter, the adoption and the tick by
their own lemmas, every other one since it leaves the items they read. -/
theorem releaseSafe_eventsKeep : EventsKeep Blocks.releaseSafe where
  reset b _ := (Ev.release_sides (Ev.start b.afterReset)).safe b.afterReset_safe
  detach := Blocks.detach_safe
  dispatch := Ev.dispatch_safe
  abandonSweep e x hx := (Ev.abandonSweep_car e x hx).toBodyKept.safe
  abandonSend e seq x hx := (Ev.abandonSend_kept e seq x hx).toBodyKept.safe
  markDue e p := (Ev.markDue_kept e p).toBodyKept.safe
  frameEnd e p := (Ev.frameEnd_kept e p).toBodyKept.safe
  markReceived e p i x := (Ev.markReceived_car e p i x).safe
  frameError e p := (Ev.frameError_kept e p).toBodyKept.safe
  silenceExpiry e p := (Ev.silenceExpiry_car e p).safe
  windowsEnd e := (Ev.windowsEnd_car e).safe
  arrive := Ev.arrive_safe
  returnExpiry e := (Ev.returnExpiry_car e).toBodyKept.safe
  carryExpiry e := (Ev.carryExpiry_car e).toBodyKept.safe
  beaconExpiry e := (Ev.beaconExpiry_car e).toBodyKept.safe
  watchExpiry e := (Ev.watchExpiry_car e).toBodyKept.safe
  settleExpiry e := (Ev.settleExpiry_car e).toBodyKept.safe
  ageExpiry e := (Ev.ageExpiry_sides e).safe
  transition e ph := Ev.setMotion_safe e _ (Motion.transition_state _ ph)
  illegal e := Ev.setMotion_safe e _ (Motion.illegalTransition_state _)
  windowEnd := Ev.windowEnd_safe
  contactMakes := Ev.contactMakes_safe
  contactOpens := Ev.contactOpens_safe
  tickAll := Ev.tickAll_safe
  closeLimit := Ev.closeLimit_safe
  grantExpiry e := (Ev.grantExpiry_sides e).safe
  cycleStart e := (Ev.cycleStart_sides e).safe
  refComplete e tb := (Ev.refComplete_sides e tb).safe
  refAbort e := (Ev.refAbort_sides e).safe
  senseResult e x := (Ev.senseResult_sides e x).safe
  periodExpiry e := (Ev.periodExpiry_sides e).safe
  scanDone e a b c d := (Ev.scanDone_sides e a b c d).safe

/-- A property of the blocks that every event keeps is kept by every step: the front command runs on the same
blocks, and an empty queue idles. -/
theorem step_keeps {P : Blocks → Prop} (hk : EventsKeep P) {s t : State} (h : P s.blk) (ht : step s = .next t) :
    P t.blk := by
  unfold step at ht
  split at ht
  · injection ht with hst
    exact hst ▸ h
  · next c rest _ => exact exec_keeps hk c _ t ht h

/-- Settles O56: every event of the blocks keeps the releases safe, and a step is one command of events. -/
theorem releaseKept : Obligations.ReleaseKept := by
  unfold Obligations.ReleaseKept
  intro s t h ht
  exact step_keeps releaseSafe_eventsKeep h ht

end Sys2Proof.Machine
end

section
/-! PROOF. The grant computation (R148): the grants by case, within the budget and below the demands used. -/

namespace Sys2Proof.Machine

/-! ## Sums weighted by the ratings -/

/-- Σ w r over a table: the form of D, of F and of what a grant set spends (R148). -/
def ratedSum (w : DemandEntry → Nat) (xs : List DemandEntry) : Nat := (xs.map fun x => w x * x.r).sum

theorem demandSum_eq_ratedSum (xs : List DemandEntry) : demandSum xs = ratedSum DemandEntry.dUsed xs := rfl

theorem floorSum_eq_ratedSum (xs : List DemandEntry) : floorSum xs = ratedSum DemandEntry.floorUsed xs := rfl

/-- The excluded entries add nothing, so the sum over the included ones is the sum over the table. -/
theorem sum_included (w : DemandEntry → Nat) (xs : List DemandEntry) :
    ((xs.filter fun x => decide (x.r ≠ 0)).map fun x => w x * x.r).sum = ratedSum w xs := by
  induction xs with
  | nil => rfl
  | cons x xs ih =>
    by_cases hr : x.r = 0
    · simpa [ratedSum, hr] using ih
    · simpa [ratedSum, hr] using ih

theorem ratedSum_congr {w v : DemandEntry → Nat} (h : ∀ x, x.r ≠ 0 → w x = v x) (xs : List DemandEntry) :
    ratedSum w xs = ratedSum v xs := by
  unfold ratedSum
  refine congrArg List.sum (List.map_congr_left fun x _ => ?_)
  by_cases hr : x.r = 0
  · rw [hr, Nat.mul_zero, Nat.mul_zero]
  · rw [h x hr]

theorem ratedSum_mono {w v : DemandEntry → Nat} (h : ∀ x, w x ≤ v x) (xs : List DemandEntry) :
    ratedSum w xs ≤ ratedSum v xs :=
  List.sum_le_sum fun x _ => Nat.mul_le_mul_right x.r (h x)

theorem ratedSum_add (w v : DemandEntry → Nat) (xs : List DemandEntry) :
    ratedSum (fun x => w x + v x) xs = ratedSum w xs + ratedSum v xs := by
  simp only [ratedSum, Nat.add_mul, List.sum_map_add]

theorem ratedSum_mul (w : DemandEntry → Nat) (m : Nat) (xs : List DemandEntry) :
    ratedSum (fun x => w x * m) xs = ratedSum w xs * m := by
  simp only [ratedSum, Nat.mul_right_comm _ m, List.sum_map_mul_right]

/-- Truncating each share loses, never gains, against truncating the whole. -/
theorem ratedSum_div_le (w : DemandEntry → Nat) (m : Nat) {n : Nat} (hn : 0 < n) (xs : List DemandEntry) :
    ratedSum (fun x => w x * m / n) xs ≤ ratedSum w xs * m / n := by
  rw [Nat.le_div_iff_mul_le hn, ← ratedSum_mul, ← ratedSum_mul]
  exact ratedSum_mono (fun x => Nat.div_mul_le_self _ _) xs

theorem ratedSum_le {w : DemandEntry → Nat} {xs : List DemandEntry} (hlen : xs.length ≤ 32)
    (h : ∀ x ∈ xs, x.r ≤ 200 ∧ w x ≤ 255) : ratedSum w xs ≤ 1632000 := by
  have hterm : ∀ y ∈ xs.map fun x => w x * x.r, y ≤ 255 * 200 := by
    intro y hy
    obtain ⟨x, hx, rfl⟩ := List.mem_map.1 hy
    exact Nat.mul_le_mul (h x hx).2 (h x hx).1
  have hsum := List.sum_le_card_nsmul _ _ hterm
  rw [List.length_map, smul_eq_mul] at hsum
  exact hsum.trans (by omega)

/-! ## The floor and the scale factor -/

theorem DemandEntry.floorUsed_le_dUsed (x : DemandEntry) : x.floorUsed ≤ x.dUsed := Nat.min_le_right _ _

/-- D is F and the weighted distances from the floors to the demands. -/
theorem floorSum_add_distance (xs : List DemandEntry) :
    floorSum xs + ratedSum (fun x => x.dUsed - x.floorUsed) xs = demandSum xs := by
  rw [floorSum_eq_ratedSum, demandSum_eq_ratedSum, ← ratedSum_add]
  exact ratedSum_congr (fun x _ => Nat.add_sub_cancel' x.floorUsed_le_dUsed) xs

/-- In case SCALED, D > Bs > F, so k is below 65536 (R148). -/
theorem scaleFactor_lt {bs d f : Nat} (hd : bs < d) (hf : f < bs) : scaleFactor bs d f < 65536 := by
  unfold scaleFactor
  rw [Nat.div_lt_iff_lt_mul (by omega)]
  omega

/-- The fraction k / 65536 of the whole distance D − F is at most what the budget leaves above the floors. -/
theorem scaled_distance_le (bs d f : Nat) : (d - f) * scaleFactor bs d f / 65536 ≤ bs - f := by
  refine Nat.div_le_of_le_mul ?_
  rw [Nat.mul_comm 65536]
  exact Nat.mul_div_le _ _

/-! ## The grants by case -/

/-- The line of an entry in the computation over a table. -/
def lineIn (bs : Nat) (xs : List DemandEntry) : DemandEntry → GrantLine :=
  let c := grantCase bs (demandSum xs) (floorSum xs)
  grantLine c bs (floorSum xs) (computedK c bs (demandSum xs) (floorSum xs))

theorem computeGrants_eq_map (bs : Nat) (xs : List DemandEntry) : computeGrants bs xs = xs.map (lineIn bs xs) := rfl

section
variable {bs : Nat} {xs : List DemandEntry} {x : DemandEntry}

theorem grantCase_fit {d f : Nat} (h : d ≤ bs) : grantCase bs d f = .fit := if_pos h

theorem grantCase_shortfall {d f : Nat} (hd : bs < d) (hf : bs ≤ f) : grantCase bs d f = .shortfall := by
  rw [grantCase, if_neg (Nat.not_le.2 hd), if_pos hf]

theorem grantCase_scaled {d f : Nat} (hd : bs < d) (hf : f < bs) : grantCase bs d f = .scaled := by
  rw [grantCase, if_neg (Nat.not_le.2 hd), if_neg (Nat.not_le.2 hf)]

theorem lineIn_excluded (hr : x.r = 0) :
    lineIn bs xs x = { included := false, dUsed := 0, e := 0, g := 0 } :=
  if_neg (by simpa [DemandEntry.included] using hr)

theorem lineIn_included (hr : x.r ≠ 0) :
    lineIn bs xs x =
      let c := grantCase bs (demandSum xs) (floorSum xs)
      let k := computedK c bs (demandSum xs) (floorSum xs)
      { included := true, dUsed := x.dUsed, e := x.floorUsed, g := grantOf c bs (floorSum xs) k x } :=
  if_pos (by simpa [DemandEntry.included] using hr)

theorem lineIn_fit (hr : x.r ≠ 0) (h : demandSum xs ≤ bs) : (lineIn bs xs x).g = x.dUsed := by
  rw [lineIn_included hr, grantCase_fit h]
  rfl

theorem lineIn_shortfall (hr : x.r ≠ 0) (hd : bs < demandSum xs) (hf : bs ≤ floorSum xs) :
    (lineIn bs xs x).g = if floorSum xs = 0 then 0 else x.floorUsed * bs / floorSum xs := by
  rw [lineIn_included hr, grantCase_shortfall hd hf]
  rfl

theorem lineIn_scaled (hr : x.r ≠ 0) (hd : bs < demandSum xs) (hf : floorSum xs < bs) :
    (lineIn bs xs x).g = x.floorUsed +
      (x.dUsed - x.floorUsed) * scaleFactor bs (demandSum xs) (floorSum xs) / 65536 := by
  rw [lineIn_included hr, grantCase_scaled hd hf]
  rfl

/-- The three cases cover every computation. -/
theorem grant_cases (bs d f : Nat) : d ≤ bs ∨ (bs < d ∧ bs ≤ f) ∨ (bs < d ∧ f < bs) := by omega

/-! ## The law of the grants -/

/-- Since Bs ≤ F, a floor scaled down is at most the floor; since k < 65536, a scaled distance is at most the
distance (R148). -/
theorem lineIn_le_dUsed (bs : Nat) (xs : List DemandEntry) (hr : x.r ≠ 0) : (lineIn bs xs x).g ≤ x.dUsed := by
  have hfloor := x.floorUsed_le_dUsed
  obtain hfit | ⟨hd, hf⟩ | ⟨hd, hf⟩ := grant_cases bs (demandSum xs) (floorSum xs)
  · exact (lineIn_fit hr hfit).le
  · rw [lineIn_shortfall hr hd hf]
    split
    · exact Nat.zero_le _
    · have hscaled : x.floorUsed * bs / floorSum xs ≤ x.floorUsed :=
        Nat.div_le_of_le_mul (Nat.mul_comm (floorSum xs) _ ▸ Nat.mul_le_mul_left _ hf)
      exact hscaled.trans hfloor
  · rw [lineIn_scaled hr hd hf]
    have hk := scaleFactor_lt hd hf
    have hshare : (x.dUsed - x.floorUsed) * scaleFactor bs (demandSum xs) (floorSum xs) / 65536 ≤
        x.dUsed - x.floorUsed :=
      Nat.div_le_of_le_mul (Nat.mul_comm 65536 _ ▸ Nat.mul_le_mul_left _ hk.le)
    omega

/-- What a grant set spends, over the pairs of a grant and its entry. -/
theorem sum_zip_computeGrants (bs : Nat) (xs : List DemandEntry) :
    (((computeGrants bs xs).zip xs).map fun y => y.1.g * y.2.r).sum =
      ratedSum (fun x => (lineIn bs xs x).g) xs := by
  rw [computeGrants_eq_map, List.map_zip_eq_zipWith, List.zipWith_map_left, List.zipWith_self]
  rfl

theorem ratedSum_shortfall_le (bs : Nat) (xs : List DemandEntry) :
    ratedSum (fun x => if floorSum xs = 0 then 0 else x.floorUsed * bs / floorSum xs) xs ≤ bs := by
  by_cases h0 : floorSum xs = 0
  · simp [h0, ratedSum]
  · have hpos : 0 < floorSum xs := Nat.pos_of_ne_zero h0
    simp only [h0, if_false]
    calc ratedSum (fun x => x.floorUsed * bs / floorSum xs) xs
        ≤ floorSum xs * bs / floorSum xs := ratedSum_div_le _ bs hpos xs
      _ = bs := Nat.mul_div_cancel_left bs hpos

theorem ratedSum_scaled_le (hf : floorSum xs < bs) :
    ratedSum (fun x => x.floorUsed +
      (x.dUsed - x.floorUsed) * scaleFactor bs (demandSum xs) (floorSum xs) / 65536) xs ≤ bs := by
  have hdist : ratedSum (fun x => x.dUsed - x.floorUsed) xs = demandSum xs - floorSum xs := by
    have := floorSum_add_distance xs
    omega
  have hshares := ratedSum_div_le (fun x => x.dUsed - x.floorUsed)
    (scaleFactor bs (demandSum xs) (floorSum xs)) (n := 65536) (by decide) xs
  rw [hdist] at hshares
  rw [ratedSum_add, ← floorSum_eq_ratedSum]
  have hleft := hshares.trans (scaled_distance_le bs _ _)
  omega

/-- The truncations keep the grants within the budget in every case (R148). -/
theorem grants_within_budget (bs : Nat) (xs : List DemandEntry) :
    ratedSum (fun x => (lineIn bs xs x).g) xs ≤ bs := by
  obtain hfit | ⟨hd, hf⟩ | ⟨hd, hf⟩ := grant_cases bs (demandSum xs) (floorSum xs)
  · rw [ratedSum_congr (fun x hr => lineIn_fit hr hfit)]
    exact hfit
  · rw [ratedSum_congr (fun x hr => lineIn_shortfall hr hd hf)]
    exact ratedSum_shortfall_le bs xs
  · rw [ratedSum_congr (fun x hr => lineIn_scaled hr hd hf)]
    exact ratedSum_scaled_le hf

/-- With demands and budget in range, the two products formed for an entry stay within 48 bits (R148). -/
theorem products_lt (hx : x.dUsed ≤ 255) (hb : bs ≤ 2048000) :
    x.floorUsed * bs < 2 ^ 48 ∧
      (bs < demandSum xs → floorSum xs < bs →
        (x.dUsed - x.floorUsed) * scaleFactor bs (demandSum xs) (floorSum xs) < 2 ^ 48) := by
  refine ⟨?_, fun hd hf => ?_⟩
  · exact (Nat.mul_le_mul (x.floorUsed_le_dUsed.trans hx) hb).trans_lt (by norm_num)
  · have hdist : x.dUsed - x.floorUsed ≤ 255 := (Nat.sub_le _ _).trans hx
    exact (Nat.mul_le_mul hdist (scaleFactor_lt hd hf).le).trans_lt (by norm_num)

end

/-- Settles O47: the sums over the included entries are D and F of the table, each grant is that of the case that
applies, and the law follows case by case. -/
theorem grantLaw : Obligations.GrantLaw := by
  unfold Obligations.GrantLaw
  intro bs xs inc dd ff k gs
  have hdd : dd = demandSum xs := sum_included DemandEntry.dUsed xs
  have hff : ff = floorSum xs := sum_included DemandEntry.floorUsed xs
  have hk : k = scaleFactor bs (demandSum xs) (floorSum xs) := by rw [← hdd, ← hff]; rfl
  rw [hdd, hff, hk]
  refine ⟨List.length_map _, fun i x g hx hg => ?_, ?_, scaleFactor_lt, fun hlen hrange hb => ?_⟩
  · obtain rfl : lineIn bs xs x = g := by simpa [gs, computeGrants_eq_map, hx] using hg
    refine ⟨fun hr => by rw [lineIn_excluded hr]; exact ⟨rfl, rfl⟩, fun hr => ?_⟩
    have hline := lineIn_included (bs := bs) (xs := xs) hr
    exact ⟨by rw [hline], by rw [hline], by rw [hline], lineIn_le_dUsed bs xs hr, lineIn_fit hr, lineIn_shortfall hr, lineIn_scaled hr⟩
  · rw [sum_zip_computeGrants]
    exact grants_within_budget bs xs
  · refine ⟨ratedSum_le hlen hrange, ratedSum_le hlen fun x hx => ?_, by omega,
      fun x hx => products_lt (hrange x hx).2 hb⟩
    exact ⟨(hrange x hx).1, x.floorUsed_le_dUsed.trans (hrange x hx).2⟩

end Sys2Proof.Machine
end

section
/-! PROOF. The examination of a drain write (R176), by its own row and as a memory write. -/

namespace Sys2Proof.Machine

/-! ## The drain words (11.2) -/

theorem hostWritten_drainAddr (q : Fin 4) : hostWritten (drainAddr q) = true := by
  revert q; decide

theorem drainOf_drainAddr (q : Fin 4) : drainOf (drainAddr q) = some q := by
  revert q; decide

theorem drainAddr_toNat (q : Fin 4) : (BitVec.ofNat 14 (0x90 + q.val)).toNat = drainAddr q := by
  revert q; decide

/-! ## The examination (R176) -/

section
variable {i : Iface} {q : Fin 4} {w : Word}

/-- A value that does not pass the fill by modulo 16 becomes the valid drain. -/
theorem Iface.drain_accepted (h : ((i.queues.get q).fill - w.setWidth 4).toNat ≤ 8) :
    i.drain q w = { i with queues := i.queues.set q { i.queues.get q with validDrain := w.setWidth 4 } } :=
  if_pos h

/-- Any other value leaves the queue alone and sets DRAIN_INVALID. -/
theorem Iface.drain_ignored (h : ¬ ((i.queues.get q).fill - w.setWidth 4).toNat ≤ 8) :
    i.drain q w = { i with cause := i.cause ||| 0b10000 } :=
  if_neg h

end

/-- A bus write to a drain word stores the word and has it examined. -/
theorem State.busWrite_drainAddr (s : State) (q : Fin 4) (w : Word) :
    s.busWrite (drainAddr q) w = { s with host := s.host.write (drainAddr q) w, ifc := s.ifc.drain q w } := by
  rw [State.busWrite, if_pos (hostWritten_drainAddr q), drainOf_drainAddr]

/-- Both rows that name a drain word are the bus write to it. -/
theorem exec_drain_rows {q : Fin 4} {w : Word} {c : Instr} (s : State)
    (hc : c ∈ [Instr.drainWrite q w, .memoryWrite (BitVec.ofNat 14 (0x90 + q.val)) w]) :
    exec c s = .next (s.busWrite (drainAddr q) w) := by
  simp only [List.mem_cons, List.not_mem_nil, or_false] at hc
  obtain rfl | rfl := hc
  · rfl
  · rw [← drainAddr_toNat]
    rfl

/-- Settles O6: either row is the bus write to the drain word, and R176's test decides what the examination leaves. -/
theorem drainWrite : Obligations.DrainWrite := by
  unfold Obligations.DrainWrite
  intro q w s c hc d x
  rw [exec_drain_rows s hc, State.busWrite_drainAddr]
  by_cases h : (x.fill - d).toNat ≤ 8
  · rw [if_pos h, Iface.drain_accepted h]
    rfl
  · rw [if_neg h, Iface.drain_ignored h]
    rfl

end Sys2Proof.Machine
end


section
/-! SUPPORT. The operations of the car's own blocks (doors, heating, supply monitor, heater output, judgement, demand table) leave the lines, the relay, the consist record, the profile and the motion record alone. -/

namespace Sys2Proof.Machine

/-- The items of the lines and the train stand, and the profile and the motion record with them. -/
structure LinesKept (e e' : Ev) : Prop where
  tick : e'.tick = e.tick
  profile : e'.profile = e.profile
  port1 : e'.port1 = e.port1
  port2 : e'.port2 = e.port2
  relay : e'.relay = e.relay
  consist : e'.consist = e.consist
  motion : e'.motion = e.motion
  origCount : e'.origCount = e.origCount

theorem LinesKept.refl (e : Ev) : LinesKept e e := ⟨rfl, rfl, rfl, rfl, rfl, rfl, rfl, rfl⟩

theorem LinesKept.trans {a b c : Ev} (h : LinesKept a b) (k : LinesKept b c) : LinesKept a c :=
  ⟨k.tick.trans h.tick, k.profile.trans h.profile, k.port1.trans h.port1, k.port2.trans h.port2,
   k.relay.trans h.relay, k.consist.trans h.consist, k.motion.trans h.motion, k.origCount.trans h.origCount⟩

theorem LinesKept.port {e e' : Ev} (h : LinesKept e e') (p : Port) : e'.port p = e.port p := by
  cases p
  · exact h.port1
  · exact h.port2

/-! ## Single updates -/

theorem LinesKept.setDoors (e : Ev) (x : Doors) : LinesKept e (e.setDoors x) := ⟨rfl, rfl, rfl, rfl, rfl, rfl, rfl, rfl⟩
theorem LinesKept.setHeater (e : Ev) (x : Heater) : LinesKept e (e.setHeater x) := ⟨rfl, rfl, rfl, rfl, rfl, rfl, rfl, rfl⟩
theorem LinesKept.setAlloc (e : Ev) (x : Alloc) : LinesKept e (e.setAlloc x) := ⟨rfl, rfl, rfl, rfl, rfl, rfl, rfl, rfl⟩
theorem LinesKept.setSummary (e : Ev) (x : Judgement) : LinesKept e (e.setSummary x) :=
  ⟨rfl, rfl, rfl, rfl, rfl, rfl, rfl, rfl⟩
theorem LinesKept.setConverter (e : Ev) (x : Converter) : LinesKept e (e.setConverter x) :=
  ⟨rfl, rfl, rfl, rfl, rfl, rfl, rfl, rfl⟩
theorem LinesKept.setMonitor (e : Ev) (x : Monitor) : LinesKept e (e.setMonitor x) :=
  ⟨rfl, rfl, rfl, rfl, rfl, rfl, rfl, rfl⟩
theorem LinesKept.setDemand (e : Ev) (x : Demand) : LinesKept e (e.setDemand x) := ⟨rfl, rfl, rfl, rfl, rfl, rfl, rfl, rfl⟩
theorem LinesKept.emit (e : Ev) (x : Effect) : LinesKept e (e.emit x) := ⟨rfl, rfl, rfl, rfl, rfl, rfl, rfl, rfl⟩
theorem LinesKept.ask (e : Ev) (p : PageId) : LinesKept e (e.ask p) := ⟨rfl, rfl, rfl, rfl, rfl, rfl, rfl, rfl⟩
theorem LinesKept.notice (e : Ev) (k : Notice) (a b : Word) : LinesKept e (e.notice k a b) := .emit e _
theorem LinesKept.publishNow (e : Ev) (p : PageId) : LinesKept e (e.publishNow p) := .emit e _
theorem LinesKept.offer (e : Ev) (p : Nat) (t : Telegram) : LinesKept e (e.offer p t) := .emit e _
theorem LinesKept.recompute (e : Ev) : LinesKept e e.recompute := .setDemand e _
theorem LinesKept.beginPhase (e : Ev) (p : Phase) : LinesKept e (e.beginPhase p) := .setConverter e _
theorem LinesKept.startScan (e : Ev) : LinesKept e e.startScan := .setMonitor e _

theorem LinesKept.complete (e : Ev) (n : Option (Fin 16)) (a b c : Word) : LinesKept e (e.complete n a b c) := by
  cases n
  · exact .refl e
  · exact .emit e _

theorem LinesKept.ite {e a b : Ev} {c : Prop} [Decidable c] (ha : LinesKept e a) (hb : LinesKept e b) :
    LinesKept e (if c then a else b) := by
  split
  · exact ha
  · exact hb

/-! ## Doors (chapter 5) -/

theorem Ev.doorsSettled_lines (e : Ev) (b : Blocks) : LinesKept e (e.doorsSettled b) := by
  have h1 : LinesKept e (if e.toBlocks.doorView = b.doorView then e else e.ask .door) := .ite (.refl e) (.ask e _)
  exact .ite h1 (h1.trans (.recompute _))

/-- Door records replaced, and what follows from the change. -/
theorem Ev.setDoors_settled_lines (e : Ev) (x : Doors) (b : Blocks) : LinesKept e ((e.setDoors x).doorsSettled b) :=
  (LinesKept.setDoors e x).trans (Ev.doorsSettled_lines _ b)

theorem Ev.closeLimit_lines (e : Ev) (s : Side) (d : Fin 4) : LinesKept e (e.closeLimit s d) := by
  unfold Ev.closeLimit
  dsimp only
  split
  · exact .ite (((LinesKept.setDoors e _).trans (.notice _ _ _ _)).trans (.publishNow _ _)) (.refl e)
  · exact .refl e

theorem Ev.sideLimits_lines (e : Ev) (s : Side) : LinesKept e (e.sideLimits s) :=
  (((Ev.closeLimit_lines e s 0).trans (Ev.closeLimit_lines _ s 1)).trans (Ev.closeLimit_lines _ s 2)).trans
    (Ev.closeLimit_lines _ s 3)

theorem Ev.closeLimits_lines (e : Ev) : LinesKept e e.closeLimits :=
  (Ev.sideLimits_lines e .left).trans (Ev.sideLimits_lines _ .right)

theorem Ev.makeContact_lines (e : Ev) (s : Side) (d : Fin 4) : LinesKept e (e.makeContact s d) :=
  .ite (Ev.setDoors_settled_lines e _ _) (.setDoors e _)

theorem Ev.contactMakes_lines (e : Ev) (s : Side) (d : Fin 4) : LinesKept e (e.contactMakes s d) :=
  (Ev.closeLimit_lines e s d).trans (Ev.makeContact_lines _ s d)

/-- A door record replaced, told when it is FORCED, and what follows from the change. -/
theorem Ev.noteForced_settled_lines (e : Ev) (x : Doors) (s : Side) (d : Fin 4) (b : Blocks) {c : Prop} [Decidable c] :
    LinesKept e ((if c then (e.setDoors x).noteForced s d else e.setDoors x).doorsSettled b) :=
  have h1 := LinesKept.setDoors e x
  (LinesKept.ite (h1.trans (.notice _ _ _ _)) h1).trans (Ev.doorsSettled_lines _ b)

theorem Ev.contactOpens_lines (e : Ev) (s : Side) (d : Fin 4) : LinesKept e (e.contactOpens s d) :=
  .ite (Ev.noteForced_settled_lines e _ s d _) (.setDoors e _)

theorem Ev.closeSide_lines (e : Ev) (s : Side) : LinesKept e (e.closeSide s) := Ev.setDoors_settled_lines e _ _

theorem Ev.closeSides_lines (ss : List Side) (e : Ev) : LinesKept e (e.closeSides ss) := by
  induction ss generalizing e with
  | nil => exact .refl e
  | cons s ss ih => exact (Ev.closeSide_lines e s).trans (ih _)

theorem Ev.admitRelease_lines (e : Ev) (s : Side) (b : Basis) : LinesKept e (e.admitRelease s b) :=
  (Ev.sideLimits_lines e s).trans (Ev.setDoors_settled_lines _ _ _)

theorem Ev.noteRefused_lines (e : Ev) (src : ReleaseSource) (w : ResultCode) (s : Side) :
    LinesKept e (e.noteRefused src w s) := by
  cases src
  · exact .notice e _ _ _
  · exact .notice e _ _ _

theorem Ev.releaseSide_lines (e : Ev) (s : Side) (flag : Bool) (basis : Basis) (src : ReleaseSource) :
    LinesKept e (e.releaseSide s flag basis src).1 := by
  unfold Ev.releaseSide
  split
  · exact .refl e
  · split
    · exact Ev.admitRelease_lines e s _
    · exact ((LinesKept.setDoors e _).trans (Ev.noteRefused_lines _ src _ s)).trans (Ev.doorsSettled_lines _ _)

theorem Ev.withdraw_lines (e : Ev) : LinesKept e e.withdraw :=
  .ite (((LinesKept.setDoors e _).trans (.notice _ _ _ _)).trans (Ev.doorsSettled_lines _ _)) (.refl e)

theorem Ev.takeDoor_lines (e : Ev) (p : List Byte) : LinesKept e (e.takeDoor p) := by
  unfold Ev.takeDoor
  split
  · exact .refl e
  · split
    · exact Ev.releaseSide_lines e _ _ _ _
    · exact Ev.closeSides_lines _ e
    · exact .refl e

theorem Ev.isolate_lines (e : Ev) (s : Side) (d : Fin 4) : LinesKept e (e.isolate s d) :=
  (Ev.closeLimit_lines e s d).trans (.ite (.refl _) (Ev.setDoors_settled_lines _ _ _))

theorem Ev.restore_lines (e : Ev) (s : Side) (d : Fin 4) : LinesKept e (e.restore s d) :=
  .ite (Ev.noteForced_settled_lines e _ s d _) (.refl e)

theorem Ev.carDoor_lines (e : Ev) (c : DoorCmd) (ss : List Side) : LinesKept e (e.carDoor c ss).1 := by
  unfold Ev.carDoor
  split
  · exact Ev.closeSides_lines ss e
  · split
    · exact .refl e
    · split
      · next s =>
        have h := Ev.releaseSide_lines e s c.attest .attestation .command
        split
        · next e1 hr =>
          rw [hr] at h
          exact h
        · next e1 why hr =>
          rw [hr] at h
          exact h
      · exact .refl e

theorem Ev.noteNewForced_lines (ds : List (Fin 4)) (s : Side) (a b : Nat) (e : Ev) :
    LinesKept e (e.noteNewForced s a b ds) := by
  induction ds generalizing e with
  | nil => exact .refl e
  | cons d ds ih => exact (LinesKept.ite (.notice e _ _ _) (.refl e)).trans (ih _)

theorem Ev.adoptDoors_lines (e : Ev) (b : Blocks) : LinesKept e (e.adoptDoors b) := by
  unfold Ev.adoptDoors
  dsimp only
  refine LinesKept.trans ?_ (Ev.doorsSettled_lines _ b)
  have h3 := fun x => ((LinesKept.setDoors e x).trans (Ev.noteNewForced_lines [0, 1, 2, 3] .left b.profile.doorsLeft
    e.profile.doorsLeft _)).trans
    (Ev.noteNewForced_lines [0, 1, 2, 3] .right b.profile.doorsRight e.profile.doorsRight _)
  exact .ite (h3 _) ((h3 _).trans (.ask _ _))

/-! ## Heating (chapter 7) -/

theorem Ev.noteUnavailable_lines (e : Ev) (ch : Chan) (a b : Channel) : LinesKept e (e.noteUnavailable ch a b) :=
  .ite (.notice e _ _ _) (.refl e)

theorem Ev.setLatch_lines (e : Ev) (c : OtCause) (w : Word) : LinesKept e (e.setLatch c w) :=
  (LinesKept.setHeater e _).trans (.notice _ _ _ _)

theorem Ev.examineLatch_lines (e : Ev) (c : Channel) (x : ChanResult) : LinesKept e (e.examineLatch c x) := by
  cases x with
  | valid w => exact .ite (.ite (.refl e) (Ev.setLatch_lines e _ _)) (.ite (.setHeater e _) (.refl e))
  | failure f => exact .ite (Ev.setLatch_lines e _ _) (.refl e)

theorem Ev.resultA_lines (e : Ev) (x : ChanResult) : LinesKept e (e.resultA x) :=
  (((LinesKept.setConverter e _).trans (Ev.noteUnavailable_lines _ _ _ _)).trans (.recompute _)).trans (.ask _ _)

theorem Ev.resultB_lines (e : Ev) (x : ChanResult) : LinesKept e (e.resultB x) :=
  (((LinesKept.setConverter e _).trans (Ev.noteUnavailable_lines _ _ _ _)).trans
    (Ev.examineLatch_lines _ _ _)).trans (.ask _ _)

theorem Ev.refComplete_lines (e : Ev) (tb : BitVec 20) : LinesKept e (e.refComplete tb) := by
  unfold Ev.refComplete
  split
  · exact (LinesKept.setConverter e _).trans (.beginPhase _ _)
  · exact (LinesKept.setConverter e _).trans (.beginPhase _ _)
  · exact .refl e
  · exact .refl e

theorem Ev.countAbort_lines (e : Ev) (c : Option Chan) : LinesKept e (e.countAbort c) :=
  have h1 := LinesKept.setConverter e _
  .ite (h1.trans (.notice _ _ _ _)) h1

theorem Ev.refAbort_lines (e : Ev) : LinesKept e e.refAbort := by
  unfold Ev.refAbort
  split
  · exact ((Ev.countAbort_lines e _).trans (Ev.resultA_lines _ _)).trans (.beginPhase _ _)
  · split
    · exact ((Ev.countAbort_lines e _).trans (Ev.resultB_lines _ _)).trans (.beginPhase _ _)
    · exact (Ev.countAbort_lines e _).trans (.beginPhase _ _)
  · exact .refl e
  · exact .refl e

theorem Ev.senseResult_lines (e : Ev) (x : ChanResult) : LinesKept e (e.senseResult x) := by
  unfold Ev.senseResult
  split
  · exact (Ev.resultA_lines e x).trans (.beginPhase _ _)
  · exact (Ev.resultB_lines e x).trans (.beginPhase _ _)
  · exact .refl e
  · exact .refl e

theorem Ev.adoptLimit_lines (e : Ev) (n : Nat) : LinesKept e (e.adoptLimit n) :=
  have h1 := (LinesKept.setConverter e _).trans (LinesKept.setHeater _ _)
  .ite (.setConverter e _) (.ite (.ite (h1.trans (.beginPhase _ _)) h1) (.refl e))

theorem Ev.adoptStandby_lines (e : Ev) (n : Nat) : LinesKept e (e.adoptStandby n) := .ite (.recompute e) (.refl e)

theorem Ev.heatSet_lines (e : Ev) (s : Word) (g b : Byte) : LinesKept e (e.heatSet s g b).1 := by
  unfold Ev.heatSet
  split
  · exact .refl e
  · exact (LinesKept.setDemand e _).trans (.recompute _)

theorem Ev.monitorCommand_lines (e : Ev) (n : Fin 16) (a b c : Byte) : LinesKept e (e.monitorCommand n a b c).1 := by
  unfold Ev.monitorCommand
  split
  · exact .refl e
  · next m _ =>
    split
    · exact .refl e
    · have h1 := (LinesKept.setMonitor e (e.monitor.accept a.toNat b.toNat m)).trans
        (.complete _ e.monitor.waitSlot 2 0 0)
      cases m with
      | off => exact h1.trans (.ask _ _)
      | once | continuous => exact h1.trans ((LinesKept.setMonitor _ _).trans (.startScan _))
      | onBeacon => exact h1

theorem Ev.scanDone_lines (e : Ev) (a b c d : BitVec 12) : LinesKept e (e.scanDone a b c d) := by
  have h1 : ∀ m, LinesKept e ((e.setMonitor m).publishNow .monitor) := fun m =>
    (LinesKept.setMonitor e m).trans (.publishNow _ _)
  unfold Ev.scanDone
  split
  · exact .refl e
  · dsimp only
    split
    · exact ((h1 _).trans (.setMonitor _ _)).trans (.complete _ _ _ _ _)
    all_goals exact h1 _

theorem Ev.periodExpiry_lines (e : Ev) : LinesKept e e.periodExpiry :=
  .ite ((LinesKept.setMonitor e _).trans (.startScan _)) (.refl e)

theorem Ev.monitorBeacon_lines (e : Ev) : LinesKept e e.monitorBeacon := by
  unfold Ev.monitorBeacon
  split
  · exact .startScan e
  · exact .refl e

theorem Ev.budget_lines (e : Ev) (b v : Word) : LinesKept e (e.budget b v).1 := by
  unfold Ev.budget
  split
  · exact .refl e
  · exact .setAlloc e _

/-! ## Heater output, judgement, demand table (chapters 6, 8 and 9) -/

theorem Ev.takeGrant_lines (e : Ev) (p : List Byte) : LinesKept e (e.takeGrant p) := by
  unfold Ev.takeGrant
  split
  · exact .ite ((LinesKept.setHeater e _).trans (.ask _ _)) (.setHeater e _)
  · exact .setHeater e _

theorem Ev.dropGrant_lines (e : Ev) : LinesKept e e.dropGrant := (LinesKept.setHeater e _).trans (.ask _ _)

theorem Ev.grantExpiry_lines (e : Ev) : LinesKept e e.grantExpiry :=
  .ite (((LinesKept.setHeater e _).trans (.notice _ _ _ _)).trans (.ask _ _)) (.refl e)

theorem Ev.startCycle_lines (e : Ev) : LinesKept e e.startCycle := (LinesKept.setHeater e _).trans (.ask _ _)

theorem Ev.cycleStart_lines (e : Ev) : LinesKept e e.cycleStart := .ite (Ev.startCycle_lines e) (.refl e)

theorem Ev.judge_lines (e : Ev) (t : Total) : LinesKept e (e.judge t) :=
  ((LinesKept.setSummary e _).trans (.setDoors _ _)).trans (.publishNow _ _)

theorem Ev.judgeArrival_lines (e : Ev) (t : Telegram) : LinesKept e (e.judgeArrival t) := by
  unfold Ev.judgeArrival
  split
  · exact .setSummary e _
  · exact .ite (Ev.judge_lines e _) (.setSummary e _)

theorem Ev.clearRefusal_lines (e : Ev) : LinesKept e e.clearRefusal := Ev.setDoors_settled_lines e _ _

theorem Ev.resetJudgement_lines (e : Ev) : LinesKept e e.resetJudgement :=
  (LinesKept.setSummary e _).trans (.publishNow _ _)

theorem Ev.ageExpiry_lines (e : Ev) : LinesKept e e.ageExpiry :=
  .ite ((LinesKept.setSummary e _).trans (.ask _ _)) (.refl e)

theorem Ev.ownDemand_lines (e : Ev) (n : Word) : LinesKept e (e.ownDemand n) := .ite (.setAlloc e _) (.refl e)

theorem Ev.takeDemand_lines (e : Ev) (t : Telegram) : LinesKept e (e.takeDemand t) := by
  unfold Ev.takeDemand
  split
  · exact .ite (.setAlloc e _) (.setAlloc e _)
  · exact .setAlloc e _

theorem Ev.offerLocal_lines (e : Ev) (t : Option Telegram) : LinesKept e (e.offerLocal t) := by
  cases t
  · exact .refl e
  · exact .offer e _ _

theorem Ev.takeLocalGrant_lines (e : Ev) (t : Option Telegram) : LinesKept e (e.takeLocalGrant t) := by
  cases t
  · exact .refl e
  · exact (Ev.takeGrant_lines e _).trans (.offer _ _ _)

theorem Ev.takeLocalDoor_lines (e : Ev) (t : Option Telegram) : LinesKept e (e.takeLocalDoor t) := by
  cases t
  · exact .refl e
  · exact (Ev.takeDoor_lines e _).trans (.offer _ _ _)

theorem Ev.noteInstalled_lines (e : Ev) : LinesKept e e.noteInstalled := by
  unfold Ev.noteInstalled
  split
  · exact .notice e _ _ _
  · exact .refl e

/-- The DOOR command outside TRAIN scope is the door block's own. -/
theorem Ev.doorCommand_lines (e : Ev) (c : DoorCmd) (h : ¬ (c.action ≤ 2 ∧ c.scope = 1)) :
    LinesKept e (e.doorCommand c).1 := by
  unfold Ev.doorCommand
  split
  · exact .refl e
  · split
    · exact .refl e
    · split
      · next h2 =>
        rw [if_neg (fun h1 => h ⟨by omega, h1⟩)]
        exact Ev.carDoor_lines e c _
      · split
        · split
          · next h2 =>
            rw [if_neg (fun h1 => h ⟨by omega, h1⟩)]
            exact Ev.carDoor_lines e c _
          · split
            · split
              · exact .refl e
              · split
                · exact Ev.isolate_lines e _ _
                · exact Ev.restore_lines e _ _
            · exact .refl e
        · exact .refl e

/-! ## The motion counter's signal, window ends and adoption (R79, R83, R180) -/

theorem Ev.motionSignal_lines (e : Ev) (old : MotionState) : LinesKept e (e.motionSignal old) :=
  .ite (Ev.withdraw_lines e) (.refl e)

theorem Ev.fittedWithdraw_lines (e : Ev) (old : MotionState) : LinesKept e (e.fittedWithdraw old) :=
  .ite (Ev.withdraw_lines e) (.refl e)

theorem Ev.noteEncoder_lines (e : Ev) (old : MotionState) : LinesKept e (e.noteEncoder old) :=
  .ite (.notice e _ _ _) (.refl e)

/-- A window end is the motion record's step, and what the other blocks hear of it. -/
theorem Ev.endWindow_lines (e : Ev) :
    LinesKept (e.setMotion (e.motion.windowEnd e.profile.z e.toBlocks.orientation)) e.endWindow :=
  ((Ev.motionSignal_lines _ _).trans (Ev.noteEncoder_lines _ _)).trans (.ask _ _)

/-- An adoption up to its JOIN is the profile and the motion record replaced, and the reactions of the car. -/
theorem Ev.adoptSides_lines (e : Ev) (g : Profile) :
    LinesKept ((e.setProfile g).setMotion (e.motion.adopt g.sensor (decide (e.profile.z ≠ g.z)))) (e.adoptSides g) :=
  ((Ev.motionSignal_lines _ _).trans (Ev.adoptDoors_lines _ _)).trans (Ev.fittedWithdraw_lines _ _)

/-- An adoption before its JOIN (R180). -/
def Ev.adoptCar (e : Ev) (g : Profile) : Ev :=
  ((e.adoptSides g).adoptLimit e.profile.otLimit).adoptStandby e.profile.s

theorem Ev.adopt_eq_adoptCar (e : Ev) (g : Profile) :
    e.adopt g =
      if e.toBlocks.joinDue e.profile g then (e.adoptCar g).join .profileChanged else e.adoptCar g := rfl

theorem Ev.adoptCar_lines (e : Ev) (g : Profile) :
    LinesKept ((e.setProfile g).setMotion (e.motion.adopt g.sensor (decide (e.profile.z ≠ g.z)))) (e.adoptCar g) :=
  ((Ev.adoptSides_lines e g).trans (Ev.adoptLimit_lines _ _)).trans (Ev.adoptStandby_lines _ _)

/-- An adoption that is taken is that of a profile without a bad field; a refused one changes nothing. -/
theorem Ev.adoptProfile_cases (e : Ev) (m : Memory) :
    (e.adoptProfile m).1 = e ∨
      firstBadField (readProfile m).1 (readProfile m).2 = none ∧ (e.adoptProfile m).1 = e.adopt (readProfile m).1 := by
  unfold Ev.adoptProfile
  dsimp only
  split
  · exact .inl rfl
  · next hb =>
    split
    · exact .inl rfl
    · split
      · exact .inl rfl
      · exact .inr ⟨hb, rfl⟩

/-! ## The tick (R164) -/

/-- A tick leaves the lines, the train and the profile alone. -/
theorem Ev.tickAll_lines (e : Ev) :
    e.tickAll.profile = e.profile ∧ e.tickAll.port1 = e.port1 ∧ e.tickAll.port2 = e.port2 ∧
      e.tickAll.relay = e.relay ∧ e.tickAll.consist = e.consist ∧ e.tickAll.motion = e.motion.tick := by
  have h := Ev.closeLimits_lines e
  exact ⟨h.profile, h.port1, h.port2, h.relay, h.consist, congrArg Motion.tick h.motion⟩

/-! ## DOOR in TRAIN scope (R103) -/

/-- A train command at the lead is an origination and the local copy at the door block; else nothing happens. -/
theorem Ev.trainDoor_cases (e : Ev) (c : DoorCmd) :
    (e.trainDoor c).1 = e ∨ ∃ t, (e.trainDoor c).1 = (e.originate (e.toBlocks.doorOutgoing c)).1.takeLocalDoor t := by
  unfold Ev.trainDoor
  split
  · exact .inl rfl
  · split
    · exact .inl rfl
    · split
      · exact .inl rfl
      · exact .inr ⟨_, rfl⟩

/-- A DOOR command acts on the car alone, or it is a train command. -/
theorem Ev.doorCommand_cases (e : Ev) (c : DoorCmd) :
    LinesKept e (e.doorCommand c).1 ∨
      ∃ t, (e.doorCommand c).1 = (e.originate (e.toBlocks.doorOutgoing c)).1.takeLocalDoor t := by
  have htrain : LinesKept e (e.trainDoor c).1 ∨
      ∃ t, (e.trainDoor c).1 = (e.originate (e.toBlocks.doorOutgoing c)).1.takeLocalDoor t :=
    (Ev.trainDoor_cases e c).imp_left fun h => by
      rw [h]
      exact .refl e
  by_cases h : c.action ≤ 2 ∧ c.scope = 1
  · obtain ⟨h2, h1⟩ := h
    unfold Ev.doorCommand
    split
    · exact .inl (.refl e)
    · split
      · exact .inl (.refl e)
      · split
        · split
          · exact .inl (.refl e)
          · exact htrain
        · split
          · rw [if_pos (by omega)]
            split
            · exact .inl (.refl e)
            · exact htrain
          · exact .inl (.refl e)
  · exact .inl (Ev.doorCommand_lines e c h)

end Sys2Proof.Machine
end


section
/-! PROOF. A step of the machine, and the exchange interface through every command (R166, R175). -/

namespace Sys2Proof.Machine

/-- Settles O1: both clauses are the two branches of `step`. -/
theorem stepRunsFront : Obligations.StepRunsFront := by
  unfold Obligations.StepRunsFront
  refine ⟨fun _ _ _ => rfl, fun s hs => ?_⟩
  unfold step
  rw [hs]

/-- An event of the blocks reaches the interface only through its effects. -/
theorem runEvent_ifaceKept (g : Ev → Ev) {s : State} (h : s.ifaceKept) : (runEvent g s).ifaceKept :=
  State.finish_kept s _ h

/-- Every command keeps the interface: the resets and the bus writes by their own lemmas, the slot rows and the
scanner since they post and visit, every other command since it is an event of the blocks. -/
theorem exec_ifaceKept (c : Instr) {s : State} (h : s.ifaceKept) : ∃ t, exec c s = .next t ∧ t.ifaceKept := by
  cases c with
  | powerOnReset => exact ⟨_, rfl, State.resetWith_kept s [] rfl fun _ hc => absurd hc List.not_mem_nil⟩
  | resetPin => exact ⟨_, rfl, State.resetWith_kept s _ h.wf h.hostOnly⟩
  | ifreset | scan | deliver | causeClear | causeEnableWrite | registerWriteIgnored =>
    exact ⟨_, rfl, State.regWrite_kept s _ _ h⟩
  | memoryWrite | drainWrite | holdSet | holdRelease => exact ⟨_, rfl, State.busWrite_kept s _ _ h⟩
  | scanPass => exact ⟨_, rfl, State.scanPass_kept s h⟩
  | adoptProfile | setCab | startSweep | send | door | heatSet | budget | monitor | restoreLink =>
    exact ⟨_, rfl, State.command_kept s _ _ _ _ h⟩
  | abandon n tag => exact ⟨_, rfl, State.abandon_kept s n tag h⟩
  | _ => exact ⟨_, rfl, runEvent_ifaceKept _ h⟩

/-- Settles O55: an empty queue idles, and every command keeps the interface. -/
theorem interfaceKept : Obligations.InterfaceKept := by
  unfold Obligations.InterfaceKept
  intro s t hq hw ho ht
  unfold step at ht
  split at ht
  · injection ht with hst
    exact hst ▸ ⟨hq, hw, ho⟩
  · next c rest _ =>
    obtain ⟨u, hu, hkept⟩ := exec_ifaceKept c (s := { s with pending := rest }) ⟨hq, hw, ho⟩
    rw [hu] at ht
    injection ht with hut
    exact hut ▸ ⟨hkept.queues, hkept.wf, hkept.hostOnly⟩

end Sys2Proof.Machine
end

section
/-! PROOF. The consist record (R20, R21) through every event of the blocks. -/

namespace Sys2Proof.Machine

/-- What an event leaves of the consist record when it keeps it whole. -/
theorem wf_of_consist {e e' : Ev} (h : e'.consist = e.consist) (hw : e.consist.wf) : e'.consist.wf := by
  rw [h]; exact hw

theorem PortKept.wf {e e' : Ev} (h : PortKept e e') (hw : e.consist.wf) : e'.consist.wf := wf_of_consist h.consist hw

/-! ## Ports (R7 to R13) -/

theorem Ev.changeLink_wf (e : Ev) (p : Port) (lp : LinkPort) (c : LinkCause) (h : e.consist.wf) :
    (e.changeLink p lp c).consist.wf :=
  (Ev.changeLink_kept e p lp c).wf h

theorem Ev.leaveUp_wf (e : Ev) (p : Port) (st : LinkState) (c : LinkCause) (h : e.consist.wf) :
    (e.leaveUp p st c).consist.wf :=
  Ev.consistPortLost_wf _ p ((Ev.disposeTraffic_frame _ p).kept.wf (Ev.changeLink_wf e p _ c h))

theorem Ev.settlingMark_wf (e : Ev) (p : Port) (i : Ident) (x : Byte) (h : e.consist.wf) :
    (e.settlingMark p i x).consist.wf := by
  unfold Ev.settlingMark
  dsimp only
  split
  · exact (PortKept.setPort e p _).wf h
  · split
    · exact (PortKept.setPort e p _).wf h
    · exact Ev.consistPortUp_wf _ p (Ev.changeLink_wf e p _ _ h)

theorem Ev.upMark_wf (e : Ev) (p : Port) (i : Ident) (x : Byte) (h : e.consist.wf) :
    (e.upMark p i x).consist.wf := by
  unfold Ev.upMark
  dsimp only
  split
  · exact (PortKept.setPort e p _).wf h
  · exact Ev.changeLink_wf _ p _ _ (Ev.leaveUp_wf e p _ _ h)

theorem Ev.markReceived_wf (e : Ev) (p : Port) (i : Ident) (x : Byte) (h : e.consist.wf) :
    (e.markReceived p i x).consist.wf := by
  unfold Ev.markReceived
  split
  · split
    · exact Ev.changeLink_wf e p _ _ h
    · exact Ev.settlingMark_wf e p i x h
    · exact Ev.upMark_wf e p i x h
    · exact h
  · exact (Ev.frameError_kept e p).wf h

theorem Ev.silenceExpiry_wf (e : Ev) (p : Port) (h : e.consist.wf) : (e.silenceExpiry p).consist.wf := by
  unfold Ev.silenceExpiry
  dsimp only
  split
  · exact Ev.changeLink_wf e p _ _ h
  · exact Ev.leaveUp_wf e p _ _ h
  all_goals exact h

theorem Ev.grade_wf (e : Ev) (p : Port) (n : Word) (h : e.consist.wf) : (e.grade p n).consist.wf := by
  have hset : ∀ lp, (e.setPort p lp).consist.wf := fun lp => (PortKept.setPort e p lp).wf h
  unfold Ev.grade
  dsimp only
  split
  · exact h
  · exact h
  · split
    · split
      · exact hset _
      · exact Ev.leaveUp_wf _ p _ _ (hset _)
    · exact hset _
  · split
    · split
      · exact hset _
      · exact Ev.changeLink_wf e p _ _ h
    · exact hset _

theorem Ev.portWindowEnd_wf (e : Ev) (p : Port) (h : e.consist.wf) : (e.portWindowEnd p).consist.wf :=
  Ev.grade_wf _ p _ ((PortKept.setPort e p _).wf h)

theorem Ev.windowsEnd_wf (e : Ev) (h : e.consist.wf) : e.windowsEnd.consist.wf :=
  Ev.portWindowEnd_wf _ .p2 (Ev.portWindowEnd_wf e .p1 h)

/-! ## Arrival (R52 to R58) -/

/-- A list of entries takes up twelve bytes for each. -/
theorem parseEntries_length {m : Nat} {bs : List Byte} {xs : List SweepEntry} (h : parseEntries m bs = some xs) :
    bs.length = 12 * xs.length := by
  fun_induction parseEntries m bs generalizing xs with
  | case1 =>
    obtain rfl := Option.some.inj h
    rfl
  | case2 =>
    next ys hys ih =>
    obtain rfl := Option.some.inj h
    simp only [List.length_cons, ih hys]
    omega
  | case3 | case4 | case5 => cases h

theorem parseSweep_length {bs : List Byte} {b : SweepBody} (h : parseSweep bs = some b) :
    bs.length = 12 * b.entries.length + 6 := by
  unfold parseSweep at h
  split at h
  · split at h
    · next xs hxs =>
      injection h with h
      subst h
      simp only [List.length_cons, parseEntries_length hxs]
    · cases h
  · cases h

/-- A telegram that passed header sanity has a length legal for its kind (R52). -/
theorem headerSanity_legalLength {t : Telegram} {k : Sane} (h : headerSanity t = some k) :
    legalLength k.kind t.payload.length = true := by
  unfold headerSanity at h
  split at h
  · split at h
    · next hs =>
      injection h with h
      subst h
      exact hs.2.1
    · cases h
  · cases h

/-- The lists of a sane RETURN have at most 32 entries (11.6). -/
theorem parseSweep_short {t : Telegram} {k : Sane} {b : SweepBody} (hs : headerSanity t = some k) (hk : k.kind = .ret)
    (hb : parseSweep t.payload = some b) : b.entries.length ≤ 32 := by
  have hl := headerSanity_legalLength hs
  have hp := parseSweep_length hb
  simp only [hk, legalLength, Bool.and_eq_true, decide_eq_true_eq] at hl
  omega

theorem Ev.takeFamily_wf (e : Ev) (p : Port) {t : Telegram} {k : Sane} (hs : headerSanity t = some k)
    (h : e.consist.wf) : (e.takeFamily p k.kind t.payload).consist.wf := by
  unfold Ev.takeFamily
  split
  · split
    · exact Ev.takeSweep_wf e p _ h
    · exact h
  · next hk =>
    split
    · next b hb => exact Ev.takeReturn_wf e p b h (parseSweep_short hs hk hb)
    · exact h
  · split
    · exact Ev.takeSweepFail_wf e p _ h
    · exact h
  · split
    · exact Ev.takeConfirm_wf e p _ h
    · exact h
  · split
    · exact Ev.takeDissolve_wf e p _ h
    · exact h
  all_goals exact h

/-- Of the consumers only that of BEACON, BREAK and JOIN is the consist block, and that of DOOR leaves the train
alone. -/
theorem Ev.consume_wf (e : Ev) (k : Kind) (t : Telegram) (h : e.consist.wf) : (e.consume k t).consist.wf := by
  cases k with
  | beacon =>
    unfold Ev.consume
    dsimp only
    split
    · exact Ev.takeBeacon_wf e _ h
    · exact h
  | brk | join => exact Ev.takeReport_wf e h
  | door => exact wf_of_consist ((Ev.takeDoor_lines e _).consist) h
  | summary => exact (Ev.takeSummary_kept e t).wf h
  | demand => exact (Ev.takeDemand_kept e t).wf h
  | grant => exact (Ev.takeGrant_kept e _).wf h
  | data | sweep | ret | sweepFail | confirm | dissolve => exact h

theorem LinesKept.wf {e e' : Ev} (h : LinesKept e e') (hw : e.consist.wf) : e'.consist.wf := wf_of_consist h.consist hw

theorem RelayOnly.wf {e e' : Ev} (h : RelayOnly e e') (hw : e.consist.wf) : e'.consist.wf := h.kept.wf hw

/-! ## Any property through an arrival (R52 to R58) -/

/-- A property that every part of an arrival keeps. -/
structure ArrivalKeeps (P : Ev → Prop) : Prop where
  family : ∀ (e : Ev) p k x, headerSanity x = some k → P e → P (e.takeFamily p k.kind x.payload)
  consume : ∀ (e : Ev) k x, P e → P (e.consume k x)
  offer : ∀ (e : Ev) p x, P e → P (e.offer p x)
  drop : ∀ (e : Ev) p c, P e → P (e.drop p c)
  forward : ∀ (e : Ev) p c x, P e → P (e.forward p c x)
  addError : ∀ (e : Ev) p, P e → P (e.setPort p (e.port p).addError)

theorem ArrivalKeeps.handOff {P : Ev → Prop} (hk : ArrivalKeeps P) (e : Ev) (p : Port) (k : Kind) (t : Telegram)
    (h : P e) : P (e.handOff p k t) :=
  hk.offer _ _ t (hk.consume e k t h)

theorem ArrivalKeeps.route {P : Ev → Prop} (hk : ArrivalKeeps P) (e : Ev) (t : LiveTable) (p : Port) (k : Sane)
    (x : Telegram) (h : P e) : P (e.route t p k x) := by
  have hhand := hk.handOff e p k.kind x h
  have hhere : ∀ b : Bool, P (if b then e.handOff p k.kind x else e) := fun b => by
    cases b
    · exact h
    · exact hhand
  unfold Ev.route
  dsimp only
  split
  · exact hhand
  · split
    · exact hk.drop e p k.cls h
    · split
      · exact hk.forward _ p k.cls x (hhere _)
      · exact hhere _

theorem ArrivalKeeps.arriveSane {P : Ev → Prop} (hk : ArrivalKeeps P) (e : Ev) (p : Port) {k : Sane} {x : Telegram}
    (hs : headerSanity x = some k) (h : P e) : P (e.arriveSane p k x) := by
  have hdrop := hk.drop e p k.cls h
  have hhand := hk.handOff e p k.kind x h
  unfold Ev.arriveSane
  split
  · exact hk.offer _ _ x (hk.family e p k x hs h)
  · split
    · split
      · exact hhand
      · split
        · exact hhand
        · split
          · exact hk.route e _ p k x h
          · exact hdrop
    · exact hdrop

theorem ArrivalKeeps.arrive {P : Ev → Prop} (hk : ArrivalKeeps P) (e : Ev) (p : Port) (x : Telegram) (h : P e) :
    P (e.arrive p x) := by
  unfold Ev.arrive
  split
  · split
    · next k hs => exact hk.arriveSane e p hs h
    · exact hk.addError e p h
  · exact h

theorem consistWf_arrivalKeeps : ArrivalKeeps fun e => e.consist.wf where
  family e p _ _ hs h := Ev.takeFamily_wf e p hs h
  consume := Ev.consume_wf
  offer e p x h := (RelayOnly.offer e p x).wf h
  drop e p c h := (Ev.drop_frame e p c).wf h
  forward e p c x h := (Ev.forward_frame e p c x).wf h
  addError e p h := (PortKept.setPort e p _).wf h

/-! ## Slot commands, every event -/

theorem Ev.adoptProfile_wf (e : Ev) (m : Memory) (h : e.consist.wf) : (e.adoptProfile m).1.consist.wf := by
  obtain hsame | ⟨-, hadopt⟩ := Ev.adoptProfile_cases e m
  · rw [hsame]
    exact h
  · have h1 : (e.adoptCar (readProfile m).1).consist.wf := wf_of_consist (Ev.adoptCar_lines e _).consist h
    rw [hadopt, Ev.adopt_eq_adoptCar]
    split
    · exact Ev.join_wf _ _ h1
    · exact h1

theorem Ev.doorCommand_wf (e : Ev) (c : DoorCmd) (h : e.consist.wf) : (e.doorCommand c).1.consist.wf := by
  obtain hlocal | ⟨t, ht⟩ := Ev.doorCommand_cases e c
  · exact hlocal.wf h
  · rw [ht]
    exact (Ev.takeLocalDoor_lines _ t).wf ((Ev.originate_kept e _ _).wf h)

theorem Ev.dispatch_wf (e : Ev) (m : Memory) (n : Fin 16) (c : SlotCmd) (h : e.consist.wf) :
    (e.dispatch m n c).1.consist.wf := by
  cases c with
  | adoptProfile => exact Ev.adoptProfile_wf e m h
  | setCab x => exact Ev.setCab_wf e x h
  | startSweep => exact Ev.startSweep_wf e n h
  | send cls mode lo hi flags plen rest => exact (Ev.sendCommand_kept e n _ _ _ _ _ _ _).wf h
  | door action scope side lo hi number attest => exact Ev.doorCommand_wf e _ h
  | heatSet setpoint gain boost => exact (Ev.heatSet_lines e _ _ _).wf h
  | budget b vlow => exact (Ev.budget_lines e _ _).wf h
  | monitor start stop mode => exact (Ev.monitorCommand_lines e n _ _ _).wf h
  | restoreLink port => exact (Ev.restoreLink_kept e port).wf h

theorem Ev.release_wf (e : Ev) (h : e.consist.wf) : e.release.consist.wf :=
  (Ev.startCycle_lines _).wf (((PortKept.setPort e .p1 _).trans (.setPort _ .p2 _)).wf h)

theorem Ev.windowEnd_wf (e : Ev) (h : e.consist.wf) : e.windowEnd.consist.wf := by
  unfold Ev.windowEnd
  split
  · exact wf_of_consist (Ev.endWindow_lines e).consist h
  · exact h

/-- After a reset the car is ALONE and idle. -/
theorem Blocks.afterReset_wf (b : Blocks) : b.afterReset.consist.wf := ⟨rfl, rfl⟩

/-- R20 and R21 through every event: those of the consist block by their own lemmas, those of the ports since they
act on it through a lost or a new link, every other one since it leaves the record. -/
theorem consistWf_eventsKeep : EventsKeep fun b => b.consist.wf where
  reset b _ := Ev.release_wf _ b.afterReset_wf
  detach _ h := Consist.wf_congr ⟨rfl, rfl, rfl, rfl, rfl, rfl⟩ h
  dispatch := Ev.dispatch_wf
  abandonSweep e x hx := Ev.abandonSweep_wf e x hx
  abandonSend e seq x hx := (Ev.abandonSend_kept e seq x hx).wf
  markDue e p := (Ev.markDue_kept e p).wf
  frameEnd e p := (Ev.frameEnd_kept e p).wf
  markReceived := Ev.markReceived_wf
  frameError e p := (Ev.frameError_kept e p).wf
  silenceExpiry := Ev.silenceExpiry_wf
  windowsEnd := Ev.windowsEnd_wf
  arrive := consistWf_arrivalKeeps.arrive
  returnExpiry := Ev.returnExpiry_wf
  carryExpiry := Ev.carryExpiry_wf
  beaconExpiry := Ev.beaconExpiry_wf
  watchExpiry := Ev.watchExpiry_wf
  settleExpiry := Ev.settleExpiry_wf
  ageExpiry e := (Ev.ageExpiry_lines e).wf
  transition _ _ h := h
  illegal _ h := h
  windowEnd := Ev.windowEnd_wf
  contactMakes e s d := (Ev.contactMakes_lines e s d).wf
  contactOpens e s d := (Ev.contactOpens_lines e s d).wf
  tickAll e := wf_of_consist (Ev.tickAll_lines e).2.2.2.2.1
  closeLimit e s d := (Ev.closeLimit_lines e s d).wf
  grantExpiry e := (Ev.grantExpiry_lines e).wf
  cycleStart e := (Ev.cycleStart_lines e).wf
  refComplete e tb := (Ev.refComplete_lines e tb).wf
  refAbort e := (Ev.refAbort_lines e).wf
  senseResult e x := (Ev.senseResult_lines e x).wf
  periodExpiry e := (Ev.periodExpiry_lines e).wf
  scanDone e a b c d := (Ev.scanDone_lines e a b c d).wf

/-- Settles O57: every event keeps the consist record consistent, and a step is one command of events. -/
theorem consistKept : Obligations.ConsistKept := by
  unfold Obligations.ConsistKept
  intro s t h ht
  exact step_keeps consistWf_eventsKeep h ht

end Sys2Proof.Machine
end


section
/-! PROOF. The motion record (R75) and the profile (R178) in their ranges through every event of the blocks. -/

namespace Sys2Proof.Machine

/-! ## The motion record (R76 to R82) -/

/-- A record with the counts and the window grid of one in range, and its own quiet and clean counts in range. -/
theorem Motion.inRange_of_counts {m m' : Motion} (h : m.inRange) (hc : m'.count = m.count)
    (hl : m'.lastDelta = m.lastDelta) (hw : m'.windowTicks = m.windowTicks) (hq : m'.quiet ≤ 3)
    (hcl : m'.clean ≤ 10) : m'.inRange := by
  obtain ⟨h1, h2, h3, h4, -, -, h7⟩ := h
  unfold Motion.inRange
  rw [hc, hl, hw]
  exact ⟨h1, h2, h3, h4, hq, hcl, h7⟩

/-- A record whose window count starts again. -/
theorem Motion.inRange_of_restart {m m' : Motion} (h : m.inRange) (hc : m'.count = 0)
    (hl : m'.lastDelta = m.lastDelta) (hw : m'.windowTicks = m.windowTicks) (hq : m'.quiet ≤ 3)
    (hcl : m'.clean ≤ 10) : m'.inRange := by
  obtain ⟨-, -, h3, h4, -, -, h7⟩ := h
  unfold Motion.inRange
  rw [hc, hl, hw]
  exact ⟨by decide, by decide, h3, h4, hq, hcl, h7⟩

theorem Motion.inRange.quiet_le {m : Motion} (h : m.inRange) : m.quiet ≤ 3 := by
  obtain ⟨-, -, -, -, hq, -, -⟩ := h
  exact hq

theorem Motion.inRange.clean_le {m : Motion} (h : m.inRange) : m.clean ≤ 10 := by
  obtain ⟨-, -, -, -, -, hc, -⟩ := h
  exact hc

theorem Motion.follow_inRange {m : Motion} (ph : EncPhase) (h : m.inRange) : (m.follow ph).inRange := by
  cases ph
  · exact h
  · exact h

/-- The window count is held within its range (R78). -/
theorem Motion.addCount_inRange {m : Motion} (c : Int) (h : m.inRange) : (m.addCount c).inRange := by
  have ⟨_, _, hrest⟩ := h
  unfold Motion.addCount
  split
  · exact h
  · exact ⟨by dsimp only; omega, by dsimp only; omega, hrest⟩

theorem Motion.transition_inRange {m : Motion} (ph : EncPhase) (h : m.inRange) : (m.transition ph).inRange := by
  unfold Motion.transition
  split
  · exact Motion.follow_inRange ph h
  all_goals exact Motion.follow_inRange ph (Motion.addCount_inRange _ h)

theorem Motion.illegalTransition_inRange {m : Motion} (h : m.inRange) : m.illegalTransition.inRange := by
  have hn : ((m.follow .a).follow .b).inRange := Motion.follow_inRange .b (Motion.follow_inRange .a h)
  unfold Motion.illegalTransition
  dsimp only
  split
  · exact hn
  · exact hn
  · exact hn
  · exact hn
  · exact Motion.inRange_of_counts hn rfl rfl rfl hn.quiet_le (Nat.zero_le _)

/-- The count of the window just closed was in range, and the next starts at zero (R79). -/
theorem Motion.closeWindow_inRange {m : Motion} (h : m.inRange) : m.closeWindow.inRange := by
  obtain ⟨hlo, hhi, -, -, hrest⟩ := h
  exact ⟨by simp [Motion.closeWindow], by simp [Motion.closeWindow], hlo, hhi, hrest⟩

theorem Motion.quietWindow_inRange {m : Motion} (h : m.inRange) : m.quietWindow.inRange := by
  unfold Motion.quietWindow
  split
  · exact Motion.inRange_of_counts h rfl rfl rfl (by dsimp only; omega) h.clean_le
  · exact Motion.inRange_of_counts h rfl rfl rfl (Nat.le_refl 3) h.clean_le

theorem Motion.decide_inRange {m : Motion} (z : Nat) (h : m.inRange) : (m.decide z).inRange := by
  unfold Motion.decide
  split
  · exact Motion.inRange_of_counts h rfl rfl rfl (Nat.zero_le _) (Nat.zero_le _)
  · split
    · exact Motion.inRange_of_counts h rfl rfl rfl (Nat.zero_le _) h.clean_le
    · split
      · exact h
      · exact Motion.quietWindow_inRange h

theorem Motion.recover_inRange {m : Motion} (h : m.inRange) : m.recover.inRange := by
  unfold Motion.recover
  split
  · split
    · exact Motion.inRange_of_counts h rfl rfl rfl h.quiet_le (by dsimp only; omega)
    · exact Motion.inRange_of_counts h rfl rfl rfl (Nat.zero_le _) (Nat.le_refl 10)
  · exact Motion.inRange_of_counts h rfl rfl rfl h.quiet_le (Nat.zero_le _)

theorem Motion.evaluate_inRange {m : Motion} (z : Nat) (h : m.inRange) : (m.evaluate z).inRange := by
  unfold Motion.evaluate
  split
  · exact h
  · exact Motion.decide_inRange z h
  · exact Motion.decide_inRange z h
  · exact Motion.decide_inRange z h
  · exact Motion.recover_inRange h

theorem Motion.windowEnd_inRange {m : Motion} (z : Nat) (o : Option Port) (h : m.inRange) :
    (m.windowEnd z o).inRange :=
  Motion.evaluate_inRange z (Motion.closeWindow_inRange h)

theorem Motion.tick_inRange {m : Motion} (h : m.inRange) : m.tick.inRange := by
  obtain ⟨h1, h2, h3, h4, h5, h6, -⟩ := h
  exact ⟨h1, h2, h3, h4, h5, h6, by simp only [Motion.tick]; omega⟩

theorem Motion.adopt_inRange {m : Motion} (sensor zChanged : Bool) (h : m.inRange) :
    (m.adopt sensor zChanged).inRange := by
  have hrestart : ∀ st, ({ m with state := st, quiet := 0, clean := 0, count := 0, illegal := 0,
                                  saturated := false } : Motion).inRange := fun _ =>
    Motion.inRange_of_restart h rfl rfl rfl (Nat.zero_le _) (Nat.zero_le _)
  unfold Motion.adopt
  split
  case h_7 =>
    split
    · exact Motion.inRange_of_counts h rfl rfl rfl (Nat.zero_le _) h.clean_le
    · exact h
  case h_2 => exact hrestart _
  case h_3 => exact hrestart _
  case h_4 => exact hrestart _
  case h_5 => exact hrestart _
  case h_6 => exact hrestart _
  all_goals exact h

/-! ## The profile (R178, R179) -/

theorem heaterModeNum_le (m : HeaterMode) : heaterModeNum m ≤ 1 := by
  cases m <;> decide

theorem ite_some_eq_none {c : Prop} [Decidable c] {n : Nat} {x : Option Nat} :
    (if c then some n else x) = none ↔ ¬ c ∧ x = none := by
  split
  · next hc => exact ⟨fun h => absurd h (Option.some_ne_none n), fun h => absurd hc h.1⟩
  · next hc => exact ⟨fun h => ⟨hc, h⟩, fun h => h.2⟩

/-- The mode word matters to the ranges only by being 0 or 1. -/
theorem firstBadField_mode {p : Profile} {k c : Nat} (h : firstBadField p k = none) (hc : c ≤ 1) :
    firstBadField p c = none := by
  unfold firstBadField at h ⊢
  simp only [ite_some_eq_none] at h ⊢
  obtain ⟨hid, hdoors, hz, hr, hf, hs, -, hrest⟩ := h
  exact ⟨hid, hdoors, hz, hr, hf, hs, by omega, hrest⟩

/-- The motion record and the profile are in their ranges. -/
def Blocks.inRange (b : Blocks) : Prop := b.motion.inRange ∧ b.profile.inRange

/-- An event that leaves both records keeps the ranges. -/
theorem inRange_congr {b b' : Blocks} (hm : b'.motion = b.motion) (hp : b'.profile = b.profile) (h : b.inRange) :
    b'.inRange := by
  unfold Blocks.inRange
  rw [hm, hp]
  exact h

theorem BodyKept.inRange {e e' : Ev} (h : BodyKept e e') (hr : e.toBlocks.inRange) : e'.toBlocks.inRange :=
  inRange_congr h.motion h.profile hr

theorem RelayOnly.inRange {e e' : Ev} (h : RelayOnly e e') (hr : e.toBlocks.inRange) : e'.toBlocks.inRange :=
  h.kept.toBodyKept.inRange hr

theorem LinesKept.inRange {e e' : Ev} (h : LinesKept e e') (hr : e.toBlocks.inRange) : e'.toBlocks.inRange :=
  inRange_congr h.motion h.profile hr

/-! ## Slot commands and arrival -/

theorem Ev.adoptProfile_inRange (e : Ev) (m : Memory) (h : e.toBlocks.inRange) :
    (e.adoptProfile m).1.toBlocks.inRange := by
  obtain hsame | ⟨hgood, hadopt⟩ := Ev.adoptProfile_cases e m
  · rw [hsame]
    exact h
  · have h1 : (e.adoptCar (readProfile m).1).toBlocks.inRange :=
      (Ev.adoptCar_lines e _).inRange
        ⟨Motion.adopt_inRange _ _ h.1, firstBadField_mode hgood (heaterModeNum_le _)⟩
    rw [hadopt, Ev.adopt_eq_adoptCar]
    split
    · exact (Ev.join_car _ _).toBodyKept.inRange h1
    · exact h1

theorem Ev.doorCommand_inRange (e : Ev) (c : DoorCmd) (h : e.toBlocks.inRange) :
    (e.doorCommand c).1.toBlocks.inRange := by
  obtain hlocal | ⟨t, ht⟩ := Ev.doorCommand_cases e c
  · exact hlocal.inRange h
  · rw [ht]
    exact (Ev.takeLocalDoor_lines _ t).inRange ((Ev.originate_kept e _ _).toBodyKept.inRange h)

theorem Ev.dispatch_inRange (e : Ev) (m : Memory) (n : Fin 16) (c : SlotCmd) (h : e.toBlocks.inRange) :
    (e.dispatch m n c).1.toBlocks.inRange := by
  cases c with
  | adoptProfile => exact Ev.adoptProfile_inRange e m h
  | setCab x => exact (Ev.setCab_car e x).toBodyKept.inRange h
  | startSweep => exact (Ev.startSweep_car e n).toBodyKept.inRange h
  | send cls mode lo hi flags plen rest => exact (Ev.sendCommand_kept e n _ _ _ _ _ _ _).toBodyKept.inRange h
  | door action scope side lo hi number attest => exact Ev.doorCommand_inRange e _ h
  | heatSet setpoint gain boost => exact (Ev.heatSet_lines e _ _ _).inRange h
  | budget b vlow => exact (Ev.budget_lines e _ _).inRange h
  | monitor start stop mode => exact (Ev.monitorCommand_lines e n _ _ _).inRange h
  | restoreLink port => exact (Ev.restoreLink_kept e port).toBodyKept.inRange h

theorem Ev.consume_inRange (e : Ev) (k : Kind) (t : Telegram) (h : e.toBlocks.inRange) :
    (e.consume k t).toBlocks.inRange := by
  cases k with
  | beacon =>
    unfold Ev.consume
    dsimp only
    split
    · exact (Ev.takeBeacon_car e _).toBodyKept.inRange h
    · exact h
  | brk | join => exact (Ev.takeReport_car e).toBodyKept.inRange h
  | door => exact (Ev.takeDoor_lines e _).inRange h
  | summary => exact (Ev.takeSummary_kept e t).toBodyKept.inRange h
  | demand => exact (Ev.takeDemand_kept e t).toBodyKept.inRange h
  | grant => exact (Ev.takeGrant_kept e _).toBodyKept.inRange h
  | data | sweep | ret | sweepFail | confirm | dissolve => exact h

theorem inRange_arrivalKeeps : ArrivalKeeps fun e => e.toBlocks.inRange where
  family e p k x _ h := (Ev.takeFamily_car e p k.kind x.payload).toBodyKept.inRange h
  consume := Ev.consume_inRange
  offer e p x h := (RelayOnly.offer e p x).inRange h
  drop e p c h := (Ev.drop_frame e p c).inRange h
  forward e p c x h := (Ev.forward_frame e p c x).inRange h
  addError e p h := (BodyKept.setPort e p _).inRange h

/-! ## Every event -/

theorem Ev.windowEnd_inRange (e : Ev) (h : e.toBlocks.inRange) : e.windowEnd.toBlocks.inRange := by
  unfold Ev.windowEnd
  split
  · exact (Ev.endWindow_lines e).inRange ⟨Motion.windowEnd_inRange _ _ h.1, h.2⟩
  · exact h

theorem Ev.tickAll_inRange (e : Ev) (h : e.toBlocks.inRange) : e.tickAll.toBlocks.inRange := by
  obtain ⟨hprofile, -, -, -, -, hmotion⟩ := Ev.tickAll_lines e
  unfold Blocks.inRange
  rw [hprofile, hmotion]
  exact ⟨Motion.tick_inRange h.1, h.2⟩

theorem Blocks.afterReset_inRange (b : Blocks) : b.afterReset.inRange := by
  refine ⟨?_, ?_⟩
  · show Motion.inRange {}
    unfold Motion.inRange
    decide
  · show Profile.inRange {}
    unfold Profile.inRange
    decide

/-- The ranges of R75 and R178 through every event: those of the motion counter and the adoption by their own
lemmas, every other one since it leaves both records. -/
theorem inRange_eventsKeep : EventsKeep Blocks.inRange where
  reset b _ := inRange_congr rfl rfl b.afterReset_inRange
  detach _ h := h
  dispatch := Ev.dispatch_inRange
  abandonSweep e x hx := (Ev.abandonSweep_car e x hx).toBodyKept.inRange
  abandonSend e seq x hx := (Ev.abandonSend_kept e seq x hx).toBodyKept.inRange
  markDue e p := (Ev.markDue_kept e p).toBodyKept.inRange
  frameEnd e p := (Ev.frameEnd_kept e p).toBodyKept.inRange
  markReceived e p i x := (Ev.markReceived_car e p i x).inRange
  frameError e p := (Ev.frameError_kept e p).toBodyKept.inRange
  silenceExpiry e p := (Ev.silenceExpiry_car e p).inRange
  windowsEnd e := (Ev.windowsEnd_car e).inRange
  arrive := inRange_arrivalKeeps.arrive
  returnExpiry e := (Ev.returnExpiry_car e).toBodyKept.inRange
  carryExpiry e := (Ev.carryExpiry_car e).toBodyKept.inRange
  beaconExpiry e := (Ev.beaconExpiry_car e).toBodyKept.inRange
  watchExpiry e := (Ev.watchExpiry_car e).toBodyKept.inRange
  settleExpiry e := (Ev.settleExpiry_car e).toBodyKept.inRange
  ageExpiry e := (Ev.ageExpiry_lines e).inRange
  transition _ ph h := ⟨Motion.transition_inRange ph h.1, h.2⟩
  illegal _ h := ⟨Motion.illegalTransition_inRange h.1, h.2⟩
  windowEnd := Ev.windowEnd_inRange
  contactMakes e s d := (Ev.contactMakes_lines e s d).inRange
  contactOpens e s d := (Ev.contactOpens_lines e s d).inRange
  tickAll := Ev.tickAll_inRange
  closeLimit e s d := (Ev.closeLimit_lines e s d).inRange
  grantExpiry e := (Ev.grantExpiry_lines e).inRange
  cycleStart e := (Ev.cycleStart_lines e).inRange
  refComplete e tb := (Ev.refComplete_lines e tb).inRange
  refAbort e := (Ev.refAbort_lines e).inRange
  senseResult e x := (Ev.senseResult_lines e x).inRange
  periodExpiry e := (Ev.periodExpiry_lines e).inRange
  scanDone e a b c d := (Ev.scanDone_lines e a b c d).inRange

/-- Settles O59: every event keeps both records in their ranges, and a step is one command of events. -/
theorem rangesKept : Obligations.RangesKept := by
  unfold Obligations.RangesKept
  intro s t hm hp ht
  exact step_keeps inRange_eventsKeep (s := s) ⟨hm, hp⟩ ht

end Sys2Proof.Machine
end


section
/-! SUPPORT. The words of a page record at a publication, direct and deferred (R172 to R174). -/

namespace Sys2Proof.Machine

theorem nextU_eq (u : Word) : nextU u = if u = 65535 then 1 else u + 1 := rfl

theorem Iface.pageCause_eq (i : Iface) (h : Memory) (p : PageId) :
    i.pageCause h p = { i with cause := if pageMasked h p then i.cause ||| 0b01000 else i.cause } := by
  unfold Iface.pageCause
  split
  · rfl
  · rfl

/-- While HOLD is set a publication is withheld (R173). -/
theorem Iface.publish_held {h : Memory} {p : PageId} (i : Iface) (c : List Word) (hh : pageHeld h p = true) :
    i.publish h p c =
      i.setPage p { i.page p with latest := some c, deferred := satInc (i.page p).deferred } := by
  unfold Iface.publish
  dsimp only
  rw [if_pos hh]

/-- With HOLD clear it stands in the page at once (R172, R174). -/
theorem Iface.publish_open {h : Memory} {p : PageId} (i : Iface) (c : List Word) (hh : pageHeld h p = false) :
    i.publish h p c =
      { i.setPage p { u := nextU (i.page p).u
                      o := decide (pageTaken h p ≠ (i.page p).u)
                      body := c, latest := some c, deferred := (i.page p).deferred } with
        cause := if pageMasked h p then i.cause ||| 0b01000 else i.cause } := by
  unfold Iface.publish
  dsimp only
  rw [if_neg (by rw [hh]; decide), Iface.pageCause_eq]
  rfl

theorem allPages_pageIdx (p : PageId) : allPages[(pageIdx p).val]? = some p := by
  cases p
  all_goals rfl

theorem pageIdx_injective {p q : PageId} (h : pageIdx p = pageIdx q) : p = q :=
  Option.some.inj ((allPages_pageIdx p).symm.trans (h ▸ allPages_pageIdx q))

theorem Iface.page_setPage (i : Iface) (p q : PageId) (g : Page) :
    (i.setPage p g).page q = if q = p then g else i.page q := by
  unfold Iface.page Iface.setPage
  by_cases hq : q = p
  · subst hq
    rw [if_pos rfl]
    exact Vector.getElem_set_self _
  · rw [if_neg hq]
    exact Vector.getElem_set_ne (pageIdx p).isLt (pageIdx q).isLt fun hv => hq (pageIdx_injective (Fin.ext hv)).symm

end Sys2Proof.Machine
end

section
/-! PROOF. The resets (R181): what both leave, and that the invariants hold after reset. -/

namespace Sys2Proof.Machine

/-- The heater record after the first cycle start (R157). -/
theorem Blocks.newCycle_reset (b : Blocks) : b.afterReset.newCycle = { cycles := 1 } :=
  calc b.afterReset.newCycle
    _ = (Blocks.afterReset {}).newCycle := rfl
    _ = { cycles := 1 } := by decide

/-- The blocks as the reset leaves them, with the levels at the input pins and the count of originations. -/
def Blocks.resetWithPins (b : Blocks) : Blocks :=
  { State.reset.blk with
    motion := { refA := b.motion.refA, refB := b.motion.refB }
    doors := { left := b.doors.left.afterReset, right := b.doors.right.afterReset }
    origCount := b.origCount }

/-- The release of reset starts the first marks and the first heater cycle, and asks for two pages. -/
theorem Ev.release_eq (b : Blocks) :
    (Ev.start b.afterReset).release = { Ev.start b.resetWithPins with asks := [.door, .heat] } := by
  have h : (Ev.start b.afterReset).release =
      { Ev.start { b.resetWithPins with heater := b.afterReset.newCycle } with asks := [.door, .heat] } := rfl
  rw [h, Blocks.newCycle_reset]
  rfl

/-- No door is configured, so the DOOR page does not show the contacts. -/
theorem doorBody_reset (b : Blocks) : doorBody b.resetWithPins = resetDoorBody :=
  calc doorBody b.resetWithPins
    _ = doorBody State.reset.blk := rfl
    _ = resetDoorBody := by decide

theorem heatBody_reset (b : Blocks) : heatBody b.resetWithPins = resetHeatBody :=
  calc heatBody b.resetWithPins
    _ = heatBody State.reset.blk := rfl
    _ = resetHeatBody := by decide

/-- The release of reset publishes the DOOR and the HEAT page (log entry 2). -/
theorem Ev.release_effects (b : Blocks) :
    (Ev.start b.afterReset).release.allEffects = [.publish .door resetDoorBody, .publish .heat resetHeatBody] := by
  rw [Ev.release_eq]
  show [Effect.publish .door (doorBody b.resetWithPins), .publish .heat (heatBody b.resetWithPins)] = _
  rw [doorBody_reset, heatBody_reset]

theorem State.resetWith_eq (s : State) (h : Memory) :
    s.resetWith h =
      { s with blk := s.blk.resetWithPins, host := h
               ifc := (Iface.publish {} h .door resetDoorBody).publish h .heat resetHeatBody } := by
  unfold State.resetWith State.finish
  rw [Ev.release_effects, Ev.release_eq]
  rfl

theorem State.resetWith_ifc (s : State) (h : Memory) :
    (s.resetWith h).ifc = (Iface.publish {} h .door resetDoorBody).publish h .heat resetHeatBody := by
  rw [State.resetWith_eq]

/-- The blocks after a reset do not depend on the memory it leaves. -/
theorem State.resetWith_blk (s : State) (h k : Memory) : (s.resetWith h).blk = (s.resetWith k).blk := rfl

theorem Iface.publish_kept (i : Iface) (h : Memory) (p : PageId) (c : List Word) :
    (i.publish h p c).scan = i.scan ∧ (i.publish h p c).deliver = i.deliver ∧
      (i.publish h p c).enable = i.enable ∧ (i.publish h p c).scanNext = i.scanNext ∧
      (i.publish h p c).slots = i.slots := by
  cases hh : pageHeld h p
  · rw [Iface.publish_open i c hh]
    exact ⟨rfl, rfl, rfl, rfl, rfl⟩
  · rw [Iface.publish_held i c hh]
    exact ⟨rfl, rfl, rfl, rfl, rfl⟩

/-- The page record a publication leaves. -/
def Page.published (g : Page) (h : Memory) (p : PageId) (c : List Word) : Page :=
  if pageHeld h p then { g with latest := some c, deferred := satInc g.deferred }
  else { u := nextU g.u, o := decide (pageTaken h p ≠ g.u), body := c, latest := some c, deferred := g.deferred }

theorem Iface.publish_page (i : Iface) (h : Memory) (p q : PageId) (c : List Word) :
    (i.publish h p c).page q = if q = p then (i.page p).published h p c else i.page q := by
  unfold Page.published
  cases hh : pageHeld h p
  · rw [Iface.publish_open i c hh]
    exact Iface.page_setPage i p q _
  · rw [Iface.publish_held i c hh]
    exact Iface.page_setPage i p q _

theorem Iface.publish_cause (i : Iface) (h : Memory) (p : PageId) (c : List Word) :
    (i.publish h p c).cause =
      if pageHeld h p = false ∧ pageMasked h p = true then i.cause ||| 0b01000 else i.cause := by
  cases hh : pageHeld h p
  · rw [Iface.publish_open i c hh]
    simp only [true_and]
  · rw [Iface.publish_held i c hh]
    rfl

/-- The page record after the first publication at the release of reset (log entry 2). -/
theorem Page.published_reset (h : Memory) (p : PageId) (c : List Word) :
    Page.published {} h p c =
      if pageHeld h p then { latest := some c, deferred := 1 }
      else { u := 1, o := decide (pageTaken h p ≠ 0), body := c, latest := some c } := rfl

theorem Iface.reset_page (p : PageId) : Iface.page {} p = {} := by
  cases p
  all_goals rfl

theorem Iface.reset_slot (n : Fin 16) : Iface.slot {} n = {} := by
  unfold Iface.slot
  simp

/-- With the memory cleared no HOLD, no mask and no T is set, so the interface is that of the reset state. -/
theorem powerOnReset_holds : Says.PowerOnReset := by
  intro s
  have hifc : (Iface.publish {} [] .door resetDoorBody).publish [] .heat resetHeatBody = State.reset.ifc := by decide
  show Host.Outcome.next (s.resetWith []) = _
  rw [State.resetWith_eq, hifc]
  rfl

theorem State.resetWith_page (s : State) (h : Memory) (p : PageId) :
    (s.resetWith h).ifc.page p =
      if p = .door ∨ p = .heat then Page.published {} h p (if p = .door then resetDoorBody else resetHeatBody)
      else {} := by
  rw [State.resetWith_ifc, Iface.publish_page, Iface.publish_page, Iface.publish_page]
  simp only [Iface.reset_page]
  cases p
  all_goals rfl

theorem State.resetWith_cause (s : State) (h : Memory) :
    (s.resetWith h).ifc.cause =
      if (pageHeld h .door = false ∧ pageMasked h .door = true) ∨
         (pageHeld h .heat = false ∧ pageMasked h .heat = true) then 0b01000 else 0 := by
  rw [State.resetWith_ifc, Iface.publish_cause, Iface.publish_cause]
  by_cases hd : pageHeld h .door = false ∧ pageMasked h .door = true
  · by_cases hh : pageHeld h .heat = false ∧ pageMasked h .heat = true
    · rw [if_pos hh, if_pos hd, if_pos (.inl hd)]
      decide
    · rw [if_neg hh, if_pos hd, if_pos (.inl hd)]
      decide
  · by_cases hh : pageHeld h .heat = false ∧ pageMasked h .heat = true
    · rw [if_pos hh, if_neg hd, if_pos (.inr hh)]
      decide
    · rw [if_neg hh, if_neg hd, if_neg (not_or.mpr ⟨hd, hh⟩)]

theorem resetPin_holds : Says.ResetPin := by
  intro s
  have hk := Iface.publish_kept {} s.host .door resetDoorBody
  obtain ⟨h1, h2, h3, h4, h5⟩ := hk
  have hk' := Iface.publish_kept (Iface.publish {} s.host .door resetDoorBody) s.host .heat resetHeatBody
  obtain ⟨k1, k2, k3, k4, k5⟩ := hk'
  refine ⟨s.resetWith s.host, s.resetWith [], rfl, rfl, rfl, rfl, rfl, ?_⟩
  rw [← State.resetWith_ifc s] at k1 k2 k3 k4 k5
  refine ⟨k1.trans h1, k2.trans h2, k3.trans h3, k4.trans h4, fun n => ?_, fun q => ?_, fun p => ?_,
    State.resetWith_cause s s.host⟩
  · exact (congrArg (fun xs => xs[n]) (k5.trans h5)).trans (Iface.reset_slot n)
  · rw [State.resetWith_ifc, Iface.publish_queues, Iface.publish_queues]
    match q with
    | 0 | 1 | 2 | 3 => rfl
  · rw [State.resetWith_page]
    rfl

/-- Settles O2: the release of reset publishes two pages, each by the rule of R172 and R173. -/
theorem resets : Obligations.Resets := by
  unfold Obligations.Resets
  exact ⟨powerOnReset_holds, resetPin_holds⟩

/-- Settles O60: each invariant on the literal of the reset state. -/
theorem resetSatisfies : Obligations.ResetSatisfies := by
  unfold Obligations.ResetSatisfies
  have hqueues : State.reset.ifc.queuesBounded := Iface.queuesBounded_of_eq (i := {}) rfl Iface.reset_bounded
  have hsafe : State.reset.blk.releaseSafe := by
    refine ⟨⟨fun _ => rfl, fun _ => rfl⟩, fun s => ?_⟩
    cases s
    · exact SideRec.safe_of_off rfl
    · exact SideRec.safe_of_off rfl
  have hpool : State.reset.blk.poolSafe := by
    refine ⟨by decide, fun c q hq => ?_, fun c q hq => ?_⟩
    · cases c <;> cases hq
    · cases c <;> cases hq
  have hrange := Blocks.afterReset_inRange {}
  exact ⟨hqueues, rfl, fun c hc => absurd hc List.not_mem_nil, hsafe, ⟨rfl, rfl⟩, hpool, hrange.1, hrange.2⟩

end Sys2Proof.Machine
end


section
/-! SUPPORT. The cells that the ports hold (R50, R51) through the operations of the relay block: which of them hold no more, and what a queued telegram adds. -/

namespace Sys2Proof.Machine

/-! ## One port -/

/-- The classes in the order of their indexes. -/
def allClasses : List Cls := [.safety, .control, .power, .service]

theorem allClasses_clsIdx (c : Cls) : allClasses[(clsIdx c).val]? = some c := by
  cases c
  all_goals rfl

theorem clsIdx_inj {a b : Cls} (h : clsIdx a = clsIdx b) : a = b :=
  Option.some.inj ((allClasses_clsIdx a).symm.trans (h ▸ allClasses_clsIdx b))

theorem LinkPort.queue_setQueue (lp : LinkPort) (c k : Cls) (l : List QTel) :
    (lp.setQueue c l).queue k = if k = c then l else lp.queue k := by
  unfold LinkPort.queue LinkPort.setQueue
  rw [Quad.get_set]
  by_cases hk : k = c
  · rw [if_pos hk, if_pos (congrArg clsIdx hk)]
  · rw [if_neg hk, if_neg fun h => hk (clsIdx_inj h)]

theorem LinkPort.occ_eq (lp : LinkPort) (c : Cls) : lp.occ c = queueCells (lp.queue c) + txCells c lp.tx := rfl

theorem queueCells_append (xs ys : List QTel) : queueCells (xs ++ ys) = queueCells xs + queueCells ys := by
  induction xs with
  | nil => exact (Nat.zero_add _).symm
  | cons x xs ih =>
    simp only [List.cons_append, queueCells, ih]
    omega

/-- The queues and the transmission of a port stand. -/
structure SameLoad (lp lp' : LinkPort) : Prop where
  queues : lp'.queues = lp.queues
  tx : lp'.tx = lp.tx

theorem SameLoad.queue {lp lp' : LinkPort} (h : SameLoad lp lp') (c : Cls) : lp'.queue c = lp.queue c := by
  unfold LinkPort.queue
  rw [h.queues]

theorem SameLoad.occ {lp lp' : LinkPort} (h : SameLoad lp lp') (c : Cls) : lp'.occ c = lp.occ c := by
  rw [LinkPort.occ_eq, LinkPort.occ_eq, h.queue, h.tx]

theorem SameLoad.sorted {lp lp' : LinkPort} (h : SameLoad lp lp') (hs : lp.sorted) : lp'.sorted := fun c => by
  rw [h.queue]
  exact hs c

theorem SameLoad.trans {a b c : LinkPort} (h : SameLoad a b) (k : SameLoad b c) : SameLoad a c :=
  ⟨k.queues.trans h.queues, k.tx.trans h.tx⟩

/-- An operation on a port with sorted queues that leaves them sorted and holds no more cells in any class. -/
def Lighter (lp lp' : LinkPort) : Prop := lp.sorted → lp'.sorted ∧ ∀ c, lp'.occ c ≤ lp.occ c

theorem SameLoad.lighter {lp lp' : LinkPort} (h : SameLoad lp lp') : Lighter lp lp' := fun hs =>
  ⟨h.sorted hs, fun c => Nat.le_of_eq (h.occ c)⟩

/-- The queues stand, and the transmission holds no more cells than before. -/
theorem Lighter.of_tx {lp lp' : LinkPort} (hq : lp'.queues = lp.queues) (ht : ∀ c, txCells c lp'.tx ≤ txCells c lp.tx) :
    Lighter lp lp' := by
  intro hs
  have hqueue : ∀ c, lp'.queue c = lp.queue c := fun c => congrArg (fun q : Quad _ => q.get (clsIdx c)) hq
  refine ⟨fun c => by rw [hqueue]; exact hs c, fun c => ?_⟩
  rw [LinkPort.occ_eq, LinkPort.occ_eq, hqueue]
  exact Nat.add_le_add_left (ht c) _

theorem txCells_cut (c : Cls) (t : Transmit) : txCells c (cutTransmit t) ≤ txCells c t := by
  cases t
  all_goals exact Nat.zero_le _

/-- A port that gives up its traffic holds nothing (R15). -/
theorem LinkPort.emptied_lighter (lp : LinkPort) : Lighter lp lp.emptied := by
  have hempty : ∀ c, lp.emptied.queue c = [] := fun c => by
    cases c
    all_goals rfl
  intro _
  refine ⟨fun c q hq => ?_, fun c => ?_⟩
  · rw [hempty] at hq
    exact absurd hq List.not_mem_nil
  · rw [LinkPort.occ_eq, LinkPort.occ_eq, hempty]
    have := txCells_cut c lp.tx
    exact Nat.le_trans (Nat.le_of_eq (Nat.zero_add _)) (Nat.le_trans this (Nat.le_add_left _ _))

/-! ## The scheduler (R64, R65) -/

/-- The head of a queue in transmission instead: the cells stay with its class. -/
theorem LinkPort.sendHead_lighter {lp : LinkPort} {c : Cls} {q : QTel} {rest : List QTel} (hi : lp.tx = .idle)
    (hq : lp.queue c = q :: rest) : Lighter lp { lp.setQueue c rest with tx := .telegram q } := by
  intro hs
  have hqueue : ∀ k, LinkPort.queue { lp.setQueue c rest with tx := .telegram q } k =
      if k = c then rest else lp.queue k := fun k => lp.queue_setQueue c k rest
  have hcls : q.cls = c := hs c q (by rw [hq]; exact List.mem_cons_self)
  refine ⟨fun k => ?_, fun k => ?_⟩
  · rw [hqueue]
    split
    · next hk =>
      subst hk
      intro x hx
      exact hs k x (by rw [hq]; exact List.mem_cons_of_mem _ hx)
    · exact hs k
  · rw [LinkPort.occ_eq, LinkPort.occ_eq, hqueue, hi]
    by_cases hk : k = c
    · rw [if_pos hk, hk, hq]
      simp only [txCells, queueCells, hcls, if_true]
      omega
    · rw [if_neg hk]
      simp only [txCells, hcls, if_neg (Ne.symm hk)]
      exact Nat.le_refl _

theorem LinkPort.setDeficit_same (lp : LinkPort) (t : DrrTurn) (n : Nat) : SameLoad lp (lp.setDeficit t n) := by
  cases t
  · exact ⟨rfl, rfl⟩
  · exact ⟨rfl, rfl⟩

theorem LinkPort.passTurn_same (lp : LinkPort) : SameLoad lp lp.passTurn := ⟨rfl, rfl⟩

theorem LinkPort.addQuantum_same (f : Profile) (lp : LinkPort) : SameLoad lp (lp.addQuantum f) := by
  unfold LinkPort.addQuantum
  split
  · exact ⟨rfl, rfl⟩
  · have h := lp.setDeficit_same lp.turn (lp.deficit lp.turn + quantum f lp.turn)
    exact ⟨h.queues, h.tx⟩

theorem Lighter.trans {a b c : LinkPort} (h : Lighter a b) (k : Lighter b c) : Lighter a c := fun hs =>
  ⟨(k (h hs).1).1, fun x => Nat.le_trans ((k (h hs).1).2 x) ((h hs).2 x)⟩

theorem LinkPort.takeHead_lighter {lp : LinkPort} {q : QTel} {rest : List QTel} (hi : lp.tx = .idle)
    (hq : lp.queue (turnCls lp.turn) = q :: rest) : Lighter lp (lp.takeHead q rest) := by
  refine (LinkPort.sendHead_lighter hi hq).trans ?_
  cases rest with
  | nil => exact ((LinkPort.setDeficit_same _ _ _).trans (LinkPort.passTurn_same _)).lighter
  | cons x xs => exact (LinkPort.setDeficit_same _ _ _).lighter

theorem LinkPort.roundRobin_lighter (f : Profile) (n : Nat) (lp : LinkPort) (hi : lp.tx = .idle) :
    Lighter lp (lp.roundRobin f n) := by
  induction n generalizing lp with
  | zero => exact fun hs => ⟨hs, fun _ => Nat.le_refl _⟩
  | succ n ih =>
    unfold LinkPort.roundRobin
    split
    · exact lp.passTurn_same.lighter.trans (ih _ hi)
    · next q rest hq =>
      have hadd := LinkPort.addQuantum_same f lp
      dsimp only
      split
      · have hturn : (lp.addQuantum f).turn = lp.turn := by
          unfold LinkPort.addQuantum
          split
          · rfl
          · cases hlp : lp.turn <;> simp only [LinkPort.setDeficit, hlp]
        exact hadd.lighter.trans (LinkPort.takeHead_lighter (hadd.tx.trans hi) (by rw [hadd.queue, hturn]; exact hq))
      · exact (hadd.trans (LinkPort.passTurn_same _)).lighter.trans (ih _ (hadd.tx.trans hi))

/-- The scheduler's choice leaves the cells with the class of the telegram it starts. -/
theorem LinkPort.schedule_lighter (f : Profile) {lp : LinkPort} (hi : lp.tx = .idle) : Lighter lp (lp.schedule f) := by
  unfold LinkPort.schedule
  split
  · next hq => exact LinkPort.sendHead_lighter hi hq
  · split
    · next hq => exact LinkPort.sendHead_lighter hi hq
    · split
      · exact fun hs => ⟨hs, fun _ => Nat.le_refl _⟩
      · exact LinkPort.roundRobin_lighter f _ lp hi

/-! ## Abandoned copies (R72) -/

theorem queueCells_dropCopies (id : Nat) (qs : List QTel) : queueCells (dropCopies id qs) ≤ queueCells qs := by
  induction qs with
  | nil => exact Nat.le_refl _
  | cons q qs ih =>
    unfold dropCopies at ih ⊢
    rw [List.filter_cons]
    split
    · exact Nat.add_le_add_left ih _
    · exact Nat.le_trans ih (Nat.le_add_left _ _)

theorem txCells_detach (c : Cls) (t : Transmit) (id : Nat) : txCells c (t.detach id) = txCells c t := by
  cases t with
  | telegram q =>
    unfold Transmit.detach
    dsimp only
    split
    · rfl
    · rfl
  | idle | mark i | abort => rfl

theorem LinkPort.withoutCopies_queue (lp : LinkPort) (id : Nat) (c : Cls) :
    (lp.withoutCopies id).queue c = dropCopies id (lp.queue c) := by
  cases c
  all_goals rfl

theorem LinkPort.withoutCopies_lighter (lp : LinkPort) (id : Nat) : Lighter lp (lp.withoutCopies id) := by
  intro hs
  refine ⟨fun c q hq => ?_, fun c => ?_⟩
  · rw [LinkPort.withoutCopies_queue] at hq
    exact hs c q (List.mem_filter.mp hq).1
  · rw [LinkPort.occ_eq, LinkPort.occ_eq, LinkPort.withoutCopies_queue]
    exact Nat.add_le_add (queueCells_dropCopies id _) (Nat.le_of_eq (txCells_detach c lp.tx id))

/-! ## An event -/

/-- Both ports keep their queues sorted. -/
def Ev.sorted (e : Ev) : Prop := e.port1.sorted ∧ e.port2.sorted

/-- An operation that adds at most `n` cells, to class `c`, and leaves the queues sorted. -/
def Loads (c : Cls) (n : Nat) (e e' : Ev) : Prop :=
  e.sorted → e'.sorted ∧ ∀ k, e'.occ k ≤ e.occ k + if k = c then n else 0

theorem Loads.trans {c : Cls} {n m : Nat} {e e' e'' : Ev} (h : Loads c n e e') (k : Loads c m e' e'') :
    Loads c (n + m) e e'' := by
  intro hs
  obtain ⟨hs', ho⟩ := h hs
  obtain ⟨hs'', ho'⟩ := k hs'
  refine ⟨hs'', fun x => ?_⟩
  have h1 := ho x
  have h2 := ho' x
  by_cases hx : x = c
  · rw [if_pos hx] at h1 h2 ⊢
    omega
  · rw [if_neg hx] at h1 h2 ⊢
    omega

theorem Loads.refl (c : Cls) (e : Ev) : Loads c 0 e e := fun hs => ⟨hs, fun _ => Nat.le_add_right _ _⟩

/-- An operation on one port that holds no more. -/
theorem Lighter.loads {e : Ev} {p : Port} {lp : LinkPort} (c : Cls) (h : Lighter (e.port p) lp) :
    Loads c 0 e (e.setPort p lp) := by
  intro hs
  cases p with
  | p1 =>
    obtain ⟨hsort, hocc⟩ := h hs.1
    refine ⟨⟨hsort, hs.2⟩, fun k => Nat.le_trans (Nat.add_le_add_right (hocc k) _) (Nat.le_add_right _ _)⟩
  | p2 =>
    obtain ⟨hsort, hocc⟩ := h hs.2
    refine ⟨⟨hs.1, hsort⟩, fun k => Nat.le_trans (Nat.add_le_add_left (hocc k) _) (Nat.le_add_right _ _)⟩

theorem Ev.kick_loads (c : Cls) (e : Ev) (p : Port) : Loads c 0 e (e.kick p) := by
  unfold Ev.kick
  split
  · next h => exact (LinkPort.schedule_lighter e.profile h.2).loads c
  · exact .refl c e

/-- A telegram at the tail of its queue adds its cells to its class. -/
theorem Ev.append_loads (e : Ev) (p : Port) (q : QTel) :
    Loads q.cls q.cells e (e.setPort p ((e.port p).setQueue q.cls ((e.port p).queue q.cls ++ [q]))) := by
  have hport : ∀ lp : LinkPort, lp.sorted → (lp.setQueue q.cls (lp.queue q.cls ++ [q])).sorted ∧
      ∀ k, (lp.setQueue q.cls (lp.queue q.cls ++ [q])).occ k = lp.occ k + if k = q.cls then q.cells else 0 := by
    intro lp hs
    refine ⟨fun k => ?_, fun k => ?_⟩
    · rw [LinkPort.queue_setQueue]
      split
      · next hk =>
        subst hk
        intro x hx
        rcases List.mem_append.mp hx with hx | hx
        · exact hs _ x hx
        · rw [List.mem_singleton.mp hx]
      · exact hs k
    · have htx : (lp.setQueue q.cls (lp.queue q.cls ++ [q])).tx = lp.tx := rfl
      rw [LinkPort.occ_eq, LinkPort.occ_eq, LinkPort.queue_setQueue, htx]
      by_cases hk : k = q.cls
      · rw [if_pos hk, if_pos hk, hk, queueCells_append]
        simp only [queueCells]
        omega
      · rw [if_neg hk, if_neg hk]
        rfl
  intro hs
  cases p with
  | p1 =>
    obtain ⟨hsort, hocc⟩ := hport e.port1 hs.1
    refine ⟨⟨hsort, hs.2⟩, fun k => ?_⟩
    show (e.port1.setQueue q.cls (e.port1.queue q.cls ++ [q])).occ k + e.port2.occ k ≤ e.port1.occ k + e.port2.occ k + _
    rw [hocc]
    omega
  | p2 =>
    obtain ⟨hsort, hocc⟩ := hport e.port2 hs.2
    refine ⟨⟨hs.1, hsort⟩, fun k => ?_⟩
    show e.port1.occ k + (e.port2.setQueue q.cls (e.port2.queue q.cls ++ [q])).occ k ≤ e.port1.occ k + e.port2.occ k + _
    rw [hocc]
    omega

theorem Ev.enqueue_loads (e : Ev) (p : Port) (q : QTel) : Loads q.cls q.cells e (e.enqueue p q) :=
  (Ev.append_loads e p q).trans (Ev.kick_loads _ _ p)

theorem Ev.enqueueCopies_loads (c : Cls) (o : Option Nat) (xs : List Copy) (e : Ev) :
    Loads c (copyCells xs) e (e.enqueueCopies c o xs) := by
  induction xs generalizing e with
  | nil => exact .refl c e
  | cons x xs ih => exact (Ev.enqueue_loads e x.port { cls := c, tel := x.tel, origin := o }).trans (ih _)

/-! ## The pool (R51, R61, R62) -/

/-- An operation that keeps the pool within its bound. -/
def PoolStays (e e' : Ev) : Prop := e.toBlocks.poolSafe → e'.toBlocks.poolSafe

theorem PoolStays.refl (e : Ev) : PoolStays e e := id

theorem PoolStays.trans {a b c : Ev} (h : PoolStays a b) (k : PoolStays b c) : PoolStays a c := k ∘ h

/-- An operation that leaves the records of the ports. -/
theorem PoolStays.of_ports {e e' : Ev} (h1 : e'.port1 = e.port1) (h2 : e'.port2 = e.port2) : PoolStays e e' := by
  unfold PoolStays Blocks.poolSafe Blocks.plainHeld Blocks.occ
  rw [h1, h2]
  exact id

theorem LinesKept.pool {e e' : Ev} (h : LinesKept e e') : PoolStays e e' := .of_ports h.port1 h.port2

/-- What adds nothing keeps the bound. -/
theorem Loads.pool {c : Cls} {e e' : Ev} (h : Loads c 0 e e') : PoolStays e e' := by
  rintro ⟨hb, h1, h2⟩
  obtain ⟨hs, ho⟩ := h ⟨h1, h2⟩
  simp only [ite_self, Nat.add_zero] at ho
  refine ⟨?_, hs⟩
  have hsafety := ho .safety
  have hcontrol := ho .control
  have hpower := ho .power
  have hservice := ho .service
  unfold Blocks.plainHeld at hb ⊢
  omega

/-- An operation on one port that holds no more. -/
theorem PoolStays.setPort {e : Ev} {p : Port} {lp : LinkPort} (h : Lighter (e.port p) lp) :
    PoolStays e (e.setPort p lp) := (h.loads .safety).pool

theorem Blocks.free_of_admission {b : Blocks} {c : Cls} {n : Nat} (h : b.admission c n = true) :
    if c = .safety then n ≤ b.free else n + (Config.safetyReserve - b.occ .safety) ≤ b.free := by
  cases c with
  | safety => exact of_decide_eq_true (Bool.and_eq_true_iff.mp h).1
  | control | power | service => exact of_decide_eq_true (Bool.and_eq_true_iff.mp h).2

/-- Cells within the admission test of their class keep the bound (R61). -/
theorem Loads.pool_admitted {c : Cls} {n : Nat} {e e' : Ev} (h : Loads c n e e')
    (ha : e.toBlocks.admission c n = true) : PoolStays e e' := by
  rintro ⟨hb, h1, h2⟩
  obtain ⟨hs, ho⟩ := h ⟨h1, h2⟩
  refine ⟨?_, hs⟩
  have hfree := Blocks.free_of_admission ha
  have hsafety := ho .safety
  have hcontrol := ho .control
  have hpower := ho .power
  have hservice := ho .service
  unfold Blocks.free Blocks.held at hfree
  unfold Blocks.plainHeld at hb ⊢
  simp only [Config.poolCells, Config.safetyReserve] at hfree hb ⊢
  cases c with
  | safety =>
    simp only [if_true, reduceCtorEq, if_false] at hfree hsafety hcontrol hpower hservice
    omega
  | control | power | service =>
    simp only [if_true, reduceCtorEq, if_false] at hfree hsafety hcontrol hpower hservice
    omega

/-! ## The operations of the relay block -/

theorem Ev.drop_loads (k : Cls) (e : Ev) (p : Port) (c : Cls) : Loads k 0 e (e.drop p c) :=
  Lighter.loads k (SameLoad.lighter ⟨rfl, rfl⟩)

theorem Ev.notice_loads (k : Cls) (e : Ev) (x : Notice) (a b : Word) : Loads k 0 e (e.notice x a b) := .refl k e

theorem Ev.loseUnsent_loads (k : Cls) (e : Ev) (p : Port) (c : Cls) (t : Telegram) :
    Loads k 0 e (e.loseUnsent p c t) := by
  unfold Ev.loseUnsent
  dsimp only
  split
  · exact (Ev.drop_loads k e p c).trans (Ev.notice_loads k _ _ _ _)
  · exact Ev.drop_loads k e p c

theorem Ev.refuseCopy_loads (k : Cls) (e : Ev) (p : Port) (c : Cls) (t : Telegram) :
    Loads k 0 e (e.refuseCopy p c t) := by
  unfold Ev.refuseCopy
  dsimp only
  split
  · exact (Ev.drop_loads k e p c).trans (Ev.notice_loads k _ _ _ _)
  · exact Ev.drop_loads k e p c

theorem Ev.loseCopies_loads (k c : Cls) (xs : List Copy) (e : Ev) : Loads k 0 e (e.loseCopies c xs) := by
  induction xs generalizing e with
  | nil => exact .refl k e
  | cons x xs ih => exact (Ev.loseUnsent_loads k e _ c _).trans (ih _)

theorem Ev.refuseCopies_loads (k c : Cls) (xs : List Copy) (e : Ev) : Loads k 0 e (e.refuseCopies c xs) := by
  induction xs generalizing e with
  | nil => exact .refl k e
  | cons x xs ih => exact (Ev.refuseCopy_loads k e _ c _).trans (ih _)

/-- Copies are queued only after the admission test of their class on the cells they need together (R62). -/
theorem Ev.placeCopies_pool (e : Ev) (c : Cls) (o : Option Nat) (xs : List Copy) :
    PoolStays e (e.placeCopies c o xs).1 := by
  unfold Ev.placeCopies
  dsimp only
  have hlose := (Ev.loseCopies_loads c c (xs.filter fun x => !e.isUp x.port) e).pool
  split
  · exact hlose
  · split
    · next ha => exact hlose.trans ((Ev.enqueueCopies_loads c o _ _).pool_admitted ha)
    · exact hlose.trans (Ev.refuseCopies_loads c c _ _).pool

theorem Ev.originate_pool (e : Ev) (o : Outgoing) (i : Option Nat) : PoolStays e (e.originate o i).1 := by
  unfold Ev.originate
  split
  · exact .refl e
  · exact (PoolStays.of_ports rfl rfl).trans (Ev.placeCopies_pool { e with origCount := e.origCount + 1 } _ _ _)

theorem Ev.sendNeighbour_pool (e : Ev) (p : Port) (o : Outgoing) (i : Option Nat) :
    PoolStays e (e.sendNeighbour p o i).1 :=
  (PoolStays.of_ports rfl rfl).trans (Ev.placeCopies_pool { e with origCount := e.origCount + 1 } _ _ _)

theorem Ev.sendFamily_pool (e : Ev) (p : Port) (k : Kind) (b : List Byte) : PoolStays e (e.sendFamily p k b) :=
  Ev.sendNeighbour_pool e p _ _

theorem Ev.forward_pool (e : Ev) (p : Port) (c : Cls) (t : Telegram) : PoolStays e (e.forward p c t) := by
  unfold Ev.forward
  split
  · exact (Ev.drop_loads c e p c).pool
  · exact Ev.placeCopies_pool e c _ _

theorem Ev.settleCopy_pool (e : Ev) (o : Option Nat) (b : Bool) : PoolStays e (e.settleCopy o b) := by
  unfold Ev.settleCopy
  split
  · exact .refl e
  · split
    · exact .refl e
    · dsimp only
      have hrelay : ∀ r, PoolStays e (e.setRelay r) := fun r => .of_ports rfl rfl
      split
      · exact (hrelay _).trans (LinesKept.complete _ _ _ _ _).pool
      · exact hrelay _

theorem Ev.loseCopy_pool (e : Ev) (p : Port) (q : QTel) : PoolStays e (e.loseCopy p q) := by
  unfold Ev.loseCopy
  dsimp only
  have hdrop := Ev.drop_loads q.cls e p q.cls
  split
  · exact (hdrop.trans (Ev.notice_loads _ _ _ _ _)).pool.trans (Ev.settleCopy_pool _ _ _)
  · exact hdrop.pool.trans (Ev.settleCopy_pool _ _ _)

theorem Ev.loseAll_pool (p : Port) (qs : List QTel) (e : Ev) : PoolStays e (e.loseAll p qs) := by
  induction qs generalizing e with
  | nil => exact .refl e
  | cons q qs ih => exact (Ev.loseCopy_pool e p q).trans (ih _)

theorem Ev.disposeTraffic_pool (e : Ev) (p : Port) : PoolStays e (e.disposeTraffic p) :=
  (PoolStays.setPort (LinkPort.emptied_lighter _)).trans (Ev.loseAll_pool p _ _)

end Sys2Proof.Machine
end


section
/-! PROOF. The cell pool (R51) through every event of the blocks: cells are taken only after the admission test. -/

namespace Sys2Proof.Machine

theorem PoolStays.setConsist (e : Ev) (c : Consist) : PoolStays e (e.setConsist c) := .of_ports rfl rfl

/-! ## Summary, allocation, beacons -/

theorem Ev.sendTotal_pool (e : Ev) (t : Total) : PoolStays e (e.sendTotal t) := by
  unfold Ev.sendTotal
  dsimp only
  split
  · exact ((Ev.originate_pool e _ _).trans (Ev.judge_lines _ _).pool).trans (Ev.offerLocal_lines _ _).pool
  · split
    · exact (Ev.originate_pool e _ _).trans (Ev.clearRefusal_lines _).pool
    · exact Ev.originate_pool e _ _

theorem Ev.summaryBeacon_pool (e : Ev) (n : Word) : PoolStays e (e.summaryBeacon n) := by
  unfold Ev.summaryBeacon
  split
  · exact Ev.sendTotal_pool e _
  · exact .refl e

theorem Ev.takeSummary_pool (e : Ev) (t : Telegram) : PoolStays e (e.takeSummary t) := by
  unfold Ev.takeSummary
  split
  · exact (Ev.judgeArrival_lines e t).pool
  · split
    · exact .refl e
    · exact Ev.sendTotal_pool e _

theorem Ev.demandBeacon_pool (e : Ev) (n : Word) : PoolStays e (e.demandBeacon n) := by
  unfold Ev.demandBeacon
  split
  · exact Ev.originate_pool e _ _
  · exact .refl e

theorem Ev.allocBeacon_pool (e : Ev) (n : Word) : PoolStays e (e.allocBeacon n) := by
  have halloc : ∀ (e : Ev) a, PoolStays e (e.setAlloc a) := fun e a => (LinesKept.setAlloc e a).pool
  have hask : ∀ e : Ev, PoolStays e (e.ask .heat) := fun e => (LinesKept.ask e _).pool
  unfold Ev.allocBeacon
  split
  · unfold Ev.allocPeriod
    dsimp only
    split
    · exact ((((((halloc e _).trans (halloc _ _)).trans (Ev.originate_pool _ _ _)).trans (halloc _ _)).trans
        (Ev.takeLocalGrant_lines _ _).pool).trans (hask _))
    · exact ((halloc e _).trans (halloc _ _)).trans (hask _)
  · exact .refl e

theorem Ev.ownBeacon_pool (e : Ev) (n : Word) : PoolStays e (e.ownBeacon n) :=
  (((Ev.summaryBeacon_pool e n).trans (Ev.ownDemand_lines _ n).pool).trans (Ev.allocBeacon_pool _ n)).trans
    (Ev.monitorBeacon_lines _).pool

theorem Ev.sendBeacon_pool (e : Ev) : PoolStays e e.sendBeacon := by
  unfold Ev.sendBeacon
  exact (((PoolStays.setConsist e _).trans (Ev.originate_pool _ _ _)).trans (Ev.ownBeacon_pool _ _)).trans
    (Ev.offerLocal_lines _ _).pool

theorem Ev.startBeacons_pool (e : Ev) : PoolStays e e.startBeacons :=
  (PoolStays.setConsist e _).trans (Ev.sendBeacon_pool _)

/-! ## Sweeps at the lead, breaks and joins -/

/-- What follows an install or a loss of the table in the other blocks leaves the ports. -/
theorem Ev.installLead_pool (e : Ev) (cab : Port) (xs : List SweepEntry) : PoolStays e (e.installLead cab xs) :=
  .of_ports rfl rfl

theorem Ev.loseTable_pool (e : Ev) (w : LossReason) (t : LiveTable) : PoolStays e (e.loseTable w t) :=
  .of_ports rfl rfl

theorem Ev.leaveLead_pool (e : Ev) : PoolStays e e.leaveLead := .of_ports rfl rfl

theorem Ev.endCarry_pool (e : Ev) : PoolStays e e.endCarry := .of_ports rfl rfl

theorem Ev.endSweep_pool (e : Ev) (o : SweepOutcome) : PoolStays e (e.endSweep o) :=
  (PoolStays.setConsist e _).trans (LinesKept.complete _ _ _ _ _).pool

theorem Ev.noteInstalled_pool (e : Ev) : PoolStays e e.noteInstalled := (Ev.noteInstalled_lines e).pool

theorem Ev.publishNow_pool (e : Ev) (p : PageId) : PoolStays e (e.publishNow p) := .of_ports rfl rfl

theorem Ev.notice_pool (e : Ev) (k : Notice) (a b : Word) : PoolStays e (e.notice k a b) := .of_ports rfl rfl

theorem Ev.formAlone_pool (e : Ev) (cab : Port) : PoolStays e (e.formAlone cab) :=
  ((((Ev.installLead_pool e _ _).trans (Ev.endSweep_pool _ _)).trans (Ev.noteInstalled_pool _)).trans
    (Ev.publishNow_pool _ _)).trans (Ev.startBeacons_pool _)

theorem Ev.beginAttempt_pool (e : Ev) (cab : Port) (k : Nat) : PoolStays e (e.beginAttempt cab k) := by
  unfold Ev.beginAttempt
  dsimp only
  split
  · exact ((PoolStays.setConsist e _).trans (.setConsist _ _)).trans (Ev.sendFamily_pool _ _ _ _)
  · exact (PoolStays.setConsist e _).trans (Ev.formAlone_pool _ _)

theorem Ev.failSweep_pool (e : Ev) (cab : Port) (w : FailReason) (pos : Nat) : PoolStays e (e.failSweep cab w pos) :=
  ((((((Ev.sendFamily_pool e _ _ _).trans (Ev.installLead_pool _ _ _)).trans (Ev.endSweep_pool _ _)).trans
    (Ev.notice_pool _ _ _ _)).trans (Ev.noteInstalled_pool _)).trans (Ev.publishNow_pool _ _)).trans
    (Ev.startBeacons_pool _)

theorem Ev.retryOrFail_pool (e : Ev) (cab : Port) (k : Nat) (w : FailReason) (pos : Nat) :
    PoolStays e (e.retryOrFail cab k w pos) := by
  unfold Ev.retryOrFail
  split
  · exact Ev.beginAttempt_pool e cab _
  · exact Ev.failSweep_pool e cab w pos

theorem Ev.askResweep_pool (e : Ev) : PoolStays e e.askResweep := by
  unfold Ev.askResweep
  split
  · exact .setConsist e _
  all_goals exact .refl e

theorem Ev.join_pool (e : Ev) (w : JoinReason) : PoolStays e (e.join w) := by
  unfold Ev.join
  split
  · exact .refl e
  · exact Ev.askResweep_pool e
  · exact Ev.originate_pool e _ _

theorem Ev.sendBreak_pool (e : Ev) : PoolStays e e.sendBreak := Ev.originate_pool e _ _

/-! ## Reports of the ports (R13) -/

theorem Ev.carryPortLost_pool (e : Ev) (p : Port) : PoolStays e (e.carryPortLost p) := by
  unfold Ev.carryPortLost
  split
  · exact .refl e
  · split
    · exact Ev.endCarry_pool e
    · split
      · exact .refl e
      · exact (Ev.sendFamily_pool e _ _ _).trans (Ev.endCarry_pool _)

theorem Ev.tablePortLost_pool (e : Ev) (p : Port) : PoolStays e (e.tablePortLost p) := by
  have hask : ∀ c : Prop, [Decidable c] → PoolStays e (if c then e.askResweep else e) := fun c _ => by
    split
    · exact Ev.askResweep_pool e
    · exact .refl e
  unfold Ev.tablePortLost
  split
  · split
    · exact (Ev.sendFamily_pool e _ _ _).trans (Ev.loseTable_pool _ _ _)
    · split
      · exact Ev.sendBreak_pool e
      · exact .refl e
  · split
    · exact .refl e
    · split
      · exact Ev.retryOrFail_pool e _ _ _ _
      all_goals exact hask _
  all_goals exact .refl e

theorem Ev.consistPortLost_pool (e : Ev) (p : Port) : PoolStays e (e.consistPortLost p) :=
  (Ev.carryPortLost_pool e p).trans (Ev.tablePortLost_pool _ p)

theorem Ev.consistPortUp_pool (e : Ev) (p : Port) : PoolStays e (e.consistPortUp p) := by
  unfold Ev.consistPortUp
  split
  · exact .refl e
  · split
    · exact Ev.join_pool e _
    · split
      · exact Ev.notice_pool e _ _ _
      · exact .refl e

/-! ## Commands of the consist block -/

theorem Ev.stopSweep_pool (e : Ev) (w : FailReason) : PoolStays e (e.stopSweep w) := by
  unfold Ev.stopSweep
  split
  · exact Ev.endSweep_pool e _
  all_goals exact .refl e

theorem Ev.deactivate_pool (e : Ev) : PoolStays e e.deactivate := by
  unfold Ev.deactivate
  split
  · exact (((Ev.sendFamily_pool e _ _ _).trans (Ev.stopSweep_pool _ _)).trans (Ev.leaveLead_pool _)).trans
      (Ev.notice_pool _ _ _ _)
  · exact .refl e

theorem Ev.activate_pool (e : Ev) (p : Port) : PoolStays e (e.activate p) := by
  have hinstall : ∀ c, PoolStays e
      ((((e.setConsist c).installLead p [e.toBlocks.ownEntry p]).noteInstalled).publishNow .consist) := fun c =>
    (((PoolStays.setConsist e c).trans (Ev.installLead_pool _ _ _)).trans (Ev.noteInstalled_pool _)).trans
      (Ev.publishNow_pool _ _)
  unfold Ev.activate
  dsimp only
  split
  · exact (hinstall _).trans (Ev.beginAttempt_pool _ _ _)
  · exact (hinstall _).trans (Ev.startBeacons_pool _)

theorem Ev.activateCab_pool (e : Ev) (p : Port) : PoolStays e (e.activateCab p).1 := by
  unfold Ev.activateCab
  split
  · exact .refl e
  · split
    · exact .refl e
    · split
      · exact .refl e
      · split
        · exact .refl e
        · split
          · exact .refl e
          · exact Ev.activate_pool e p

theorem Ev.setCab_pool (e : Ev) (x : Byte) : PoolStays e (e.setCab x).1 := by
  unfold Ev.setCab
  split
  · exact Ev.deactivate_pool e
  · split
    · exact Ev.activateCab_pool e _
    · exact .refl e

theorem Ev.startSweep_pool (e : Ev) (n : Fin 16) : PoolStays e (e.startSweep n).1 := by
  unfold Ev.startSweep
  split
  · split
    · exact .refl e
    all_goals exact (PoolStays.setConsist e _).trans (Ev.beginAttempt_pool _ _ _)
  · exact .refl e

theorem Ev.abandonSweep_pool (e : Ev) (x : Ev × Word) (h : e.abandonSweep = some x) : PoolStays e x.1 := by
  unfold Ev.abandonSweep at h
  split at h
  · cases h
    exact ((PoolStays.setConsist e _).trans (Ev.publishNow_pool _ _)).trans (Ev.startBeacons_pool _)
  all_goals cases h

/-! ## Telegrams of the sweep family, BEACON, BREAK and JOIN -/

theorem Ev.validateSweep_pool (e : Ev) (p : Port) (b : SweepBody) : PoolStays e (e.validateSweep p b) := by
  unfold Ev.validateSweep
  split
  · exact Ev.sendFamily_pool e _ _ _
  · unfold Ev.takeUpSweep
    dsimp only
    split
    · exact (PoolStays.setConsist e _).trans (Ev.sendFamily_pool _ _ _ _)
    · exact (PoolStays.setConsist e _).trans (Ev.sendFamily_pool _ _ _ _)

theorem Ev.abandonLead_pool (e : Ev) (y : Ident) : PoolStays e (e.abandonLead y) := by
  unfold Ev.abandonLead
  split
  · exact ((Ev.stopSweep_pool e _).trans (Ev.leaveLead_pool _)).trans (Ev.notice_pool _ _ _ _)
  · exact Ev.loseTable_pool e _ _
  all_goals exact Ev.endCarry_pool e

theorem Ev.takeSweep_pool (e : Ev) (p : Port) (b : SweepBody) : PoolStays e (e.takeSweep p b) := by
  unfold Ev.takeSweep
  split
  · exact .refl e
  · exact Ev.validateSweep_pool e p b
  · exact (Ev.abandonLead_pool e _).trans (Ev.validateSweep_pool _ p b)

theorem Ev.completeSweep_pool (e : Ev) (cab : Port) (b : SweepBody) : PoolStays e (e.completeSweep cab b) :=
  (((((Ev.installLead_pool e _ _).trans (Ev.sendFamily_pool _ _ _ _)).trans (Ev.endSweep_pool _ _)).trans
    (Ev.publishNow_pool _ _)).trans (Ev.noteInstalled_pool _)).trans (Ev.startBeacons_pool _)

theorem Ev.leadReturn_pool (e : Ev) (cab p : Port) (b : SweepBody) : PoolStays e (e.leadReturn cab p b) := by
  unfold Ev.leadReturn
  split
  · split
    · split
      · exact Ev.completeSweep_pool e _ _
      · exact Ev.failSweep_pool e _ _ _
    · exact .refl e
  all_goals exact .refl e

theorem Ev.carryReturn_pool (e : Ev) (c : Carry) (p : Port) (b : SweepBody) : PoolStays e (e.carryReturn c p b) := by
  unfold Ev.carryReturn
  split
  · split
    · split
      · exact (PoolStays.setConsist e _).trans (Ev.sendFamily_pool _ _ _ _)
      · exact Ev.sendFamily_pool e _ _ _
    · exact Ev.sendFamily_pool e _ _ _
  · exact .refl e

theorem Ev.takeReturn_pool (e : Ev) (p : Port) (b : SweepBody) : PoolStays e (e.takeReturn p b) := by
  unfold Ev.takeReturn
  split
  · exact Ev.leadReturn_pool e _ p b
  · exact Ev.carryReturn_pool e _ p b
  · exact .refl e

theorem Ev.leadFail_pool (e : Ev) (cab p : Port) (b : FailBody) : PoolStays e (e.leadFail cab p b) := by
  unfold Ev.leadFail
  split
  · split
    · split
      · exact Ev.failSweep_pool e _ _ _
      · exact Ev.failSweep_pool e _ _ _
      · exact Ev.retryOrFail_pool e _ _ _ _
      · exact .refl e
    · exact .refl e
  all_goals exact .refl e

theorem Ev.takeSweepFail_pool (e : Ev) (p : Port) (b : FailBody) : PoolStays e (e.takeSweepFail p b) := by
  unfold Ev.takeSweepFail
  split
  · exact Ev.leadFail_pool e _ p b
  · split
    · exact (Ev.sendFamily_pool e _ _ _).trans (Ev.endCarry_pool _)
    · exact .refl e
  · exact .refl e

theorem Ev.installChecks_pool (e : Ev) (t : LiveTable) : PoolStays e (e.installChecks t) := by
  unfold Ev.installChecks
  split
  · split
    · exact .refl e
    · exact Ev.sendBreak_pool e
  · split
    · exact Ev.join_pool e _
    · exact .refl e

theorem Ev.installFollower_pool (e : Ev) (c : Carry) (xs : List SweepEntry) (b : ConfirmBody) :
    PoolStays e (e.installFollower c xs b) := by
  have hfirst : ∀ k, PoolStays e (e.setConsist k).dropGrant := fun _ => .of_ports rfl rfl
  have hlast : ∀ (e : Ev) t, PoolStays e (((e.publishNow .consist).noteInstalled).installChecks t) := fun e t =>
    ((Ev.publishNow_pool e _).trans (Ev.noteInstalled_pool _)).trans (Ev.installChecks_pool _ t)
  unfold Ev.installFollower
  dsimp only
  split
  · exact ((hfirst _).trans (Ev.sendFamily_pool _ _ _ _)).trans (hlast _ _)
  · exact (hfirst _).trans (hlast _ _)

theorem Ev.takeConfirm_pool (e : Ev) (p : Port) (b : ConfirmBody) : PoolStays e (e.takeConfirm p b) := by
  unfold Ev.takeConfirm
  split
  · split
    · exact Ev.installFollower_pool e _ _ _
    · exact .refl e
  · exact .refl e

theorem Ev.takeDissolve_pool (e : Ev) (p : Port) (g : Byte) : PoolStays e (e.takeDissolve p g) := by
  unfold Ev.takeDissolve
  split
  · split
    · refine PoolStays.trans ?_ (Ev.loseTable_pool _ _ _)
      split
      · exact Ev.sendFamily_pool e _ _ _
      · exact .refl e
    · exact .refl e
  · exact .refl e

theorem Ev.takeFamily_pool (e : Ev) (p : Port) (k : Kind) (b : List Byte) : PoolStays e (e.takeFamily p k b) := by
  unfold Ev.takeFamily
  split
  · split
    · exact Ev.takeSweep_pool e p _
    · exact .refl e
  · split
    · exact Ev.takeReturn_pool e p _
    · exact .refl e
  · split
    · exact Ev.takeSweepFail_pool e p _
    · exact .refl e
  · split
    · exact Ev.takeConfirm_pool e p _
    · exact .refl e
  · split
    · exact Ev.takeDissolve_pool e p _
    · exact .refl e
  all_goals exact .refl e

theorem Ev.acceptBeacon_pool (e : Ev) (b : BeaconBody) : PoolStays e (e.acceptBeacon b) := by
  unfold Ev.acceptBeacon
  dsimp only
  split
  · exact .setConsist e _
  · exact .refl e

theorem Ev.takeBeacon_pool (e : Ev) (b : BeaconBody) : PoolStays e (e.takeBeacon b) := by
  have h1 := (Ev.acceptBeacon_pool e b).trans (Ev.summaryBeacon_pool _ b.number)
  unfold Ev.takeBeacon
  dsimp only
  refine PoolStays.trans ?_ (Ev.monitorBeacon_lines _).pool
  split
  · exact h1
  · exact h1.trans (Ev.demandBeacon_pool _ _)

theorem Ev.takeReport_pool (e : Ev) : PoolStays e e.takeReport := by
  unfold Ev.takeReport
  split
  · exact Ev.askResweep_pool e
  · exact .refl e

theorem Ev.consume_pool (e : Ev) (k : Kind) (t : Telegram) : PoolStays e (e.consume k t) := by
  cases k with
  | beacon =>
    unfold Ev.consume
    dsimp only
    split
    · exact Ev.takeBeacon_pool e _
    · exact .refl e
  | brk | join => exact Ev.takeReport_pool e
  | door => exact (Ev.takeDoor_lines e _).pool
  | summary => exact Ev.takeSummary_pool e t
  | demand => exact (Ev.takeDemand_lines e t).pool
  | grant => exact (Ev.takeGrant_lines e _).pool
  | data | sweep | ret | sweepFail | confirm | dissolve => exact .refl e

theorem poolSafe_arrivalKeeps : ArrivalKeeps fun e => e.toBlocks.poolSafe where
  family e p k x _ := Ev.takeFamily_pool e p k.kind x.payload
  consume := Ev.consume_pool
  offer e p x := (LinesKept.offer e p x).pool
  drop e p c := (Ev.drop_loads c e p c).pool
  forward := Ev.forward_pool
  addError _ _ := PoolStays.setPort (SameLoad.lighter ⟨rfl, rfl⟩)

/-! ## Timers of the consist block -/

theorem Ev.returnExpiry_pool (e : Ev) : PoolStays e e.returnExpiry := by
  unfold Ev.returnExpiry
  split
  · exact Ev.retryOrFail_pool e _ _ _ _
  · exact .refl e

theorem Ev.carryExpiry_pool (e : Ev) : PoolStays e e.carryExpiry := by
  unfold Ev.carryExpiry
  split
  · exact Ev.endCarry_pool e
  · exact .refl e

theorem Ev.beaconExpiry_pool (e : Ev) : PoolStays e e.beaconExpiry := by
  unfold Ev.beaconExpiry
  split
  · exact Ev.startBeacons_pool e
  · exact .refl e

theorem Ev.watchExpiry_pool (e : Ev) : PoolStays e e.watchExpiry := by
  unfold Ev.watchExpiry
  split
  · exact Ev.loseTable_pool e _ _
  · exact .refl e

theorem Ev.settleExpiry_pool (e : Ev) : PoolStays e e.settleExpiry := by
  unfold Ev.settleExpiry
  split
  · exact Ev.beginAttempt_pool e _ _
  · exact .refl e

/-! ## Ports -/

/-- A link record that leaves the queues and the transmission. -/
theorem PoolStays.setLink (e : Ev) (p : Port) (lp : LinkPort) (hq : lp.queues = (e.port p).queues)
    (ht : lp.tx = (e.port p).tx) : PoolStays e (e.setPort p lp) := .setPort (SameLoad.lighter ⟨hq, ht⟩)

theorem Ev.changeLink_pool (e : Ev) (p : Port) (lp : LinkPort) (c : LinkCause) (hq : lp.queues = (e.port p).queues)
    (ht : lp.tx = (e.port p).tx) : PoolStays e (e.changeLink p lp c) :=
  ((PoolStays.setLink e p lp hq ht).trans (Ev.notice_pool _ _ _ _)).trans (LinesKept.ask _ _).pool

theorem Ev.leaveUp_pool (e : Ev) (p : Port) (st : LinkState) (c : LinkCause) : PoolStays e (e.leaveUp p st c) :=
  ((Ev.changeLink_pool e p _ c (by rfl) (by rfl)).trans (Ev.disposeTraffic_pool _ p)).trans (Ev.consistPortLost_pool _ p)

theorem Ev.frameError_pool (e : Ev) (p : Port) : PoolStays e (e.frameError p) := by
  unfold Ev.frameError LinkPort.frameError
  split
  · exact .setLink e p _ (by rfl) (by rfl)
  · exact .setLink e p _ (by rfl) (by rfl)

theorem Ev.settlingMark_pool (e : Ev) (p : Port) (i : Ident) (x : Byte) : PoolStays e (e.settlingMark p i x) := by
  unfold Ev.settlingMark
  dsimp only
  split
  · exact .setLink e p _ (by rfl) (by rfl)
  · split
    · exact .setLink e p _ (by rfl) (by rfl)
    · exact (Ev.changeLink_pool _ _ _ _ (by rfl) (by rfl)).trans (Ev.consistPortUp_pool _ p)

theorem Ev.upMark_pool (e : Ev) (p : Port) (i : Ident) (x : Byte) : PoolStays e (e.upMark p i x) := by
  unfold Ev.upMark
  dsimp only
  split
  · exact .setLink e p _ (by rfl) (by rfl)
  · exact (Ev.leaveUp_pool e p _ _).trans (Ev.changeLink_pool _ _ _ _ (by rfl) (by rfl))

theorem Ev.markReceived_pool (e : Ev) (p : Port) (i : Ident) (x : Byte) : PoolStays e (e.markReceived p i x) := by
  unfold Ev.markReceived
  split
  · split
    · exact Ev.changeLink_pool _ _ _ _ (by rfl) (by rfl)
    · exact Ev.settlingMark_pool e p i x
    · exact Ev.upMark_pool e p i x
    · exact .refl e
  · exact Ev.frameError_pool e p

theorem Ev.silenceExpiry_pool (e : Ev) (p : Port) : PoolStays e (e.silenceExpiry p) := by
  unfold Ev.silenceExpiry
  dsimp only
  split
  · exact Ev.changeLink_pool _ _ _ _ (by rfl) (by rfl)
  · exact Ev.leaveUp_pool e p _ _
  all_goals exact .refl e

theorem Ev.grade_pool (e : Ev) (p : Port) (n : Word) : PoolStays e (e.grade p n) := by
  unfold Ev.grade
  dsimp only
  split
  · exact .refl e
  · exact .refl e
  · split
    · split
      · exact .setLink e p _ (by rfl) (by rfl)
      · exact (PoolStays.setLink e p _ (by rfl) (by rfl)).trans (Ev.leaveUp_pool _ p _ _)
    · exact .setLink e p _ (by rfl) (by rfl)
  · split
    · split
      · exact .setLink e p _ (by rfl) (by rfl)
      · exact Ev.changeLink_pool _ _ _ _ (by rfl) (by rfl)
    · exact .setLink e p _ (by rfl) (by rfl)

theorem Ev.portWindowEnd_pool (e : Ev) (p : Port) : PoolStays e (e.portWindowEnd p) :=
  (PoolStays.setLink e p { e.port p with lastErr := (e.port p).winErr, winErr := 0 } rfl rfl).trans (Ev.grade_pool _ p _)

theorem Ev.windowsEnd_pool (e : Ev) : PoolStays e e.windowsEnd :=
  ((Ev.portWindowEnd_pool e .p1).trans (Ev.portWindowEnd_pool _ .p2)).trans (LinesKept.ask _ _).pool

/-- A transmission that holds no cells. -/
theorem Ev.setTx_pool {e : Ev} {p : Port} {lp : LinkPort} (hq : lp.queues = (e.port p).queues)
    (ht : ∀ c, txCells c lp.tx = 0) : PoolStays e (e.setPort p lp) :=
  .setPort (Lighter.of_tx hq fun c => Nat.le_trans (Nat.le_of_eq (ht c)) (Nat.zero_le _))

theorem Ev.startMark_pool (e : Ev) (p : Port) : PoolStays e (e.startMark p) := Ev.setTx_pool rfl fun _ => rfl

theorem Ev.markDue_pool (e : Ev) (p : Port) : PoolStays e (e.markDue p) := by
  unfold Ev.markDue
  split
  · exact Ev.startMark_pool e p
  · exact .setLink e p _ (by rfl) (by rfl)

theorem Ev.nextFrame_pool (e : Ev) (p : Port) : PoolStays e (e.nextFrame p) := by
  unfold Ev.nextFrame
  split
  · exact Ev.startMark_pool e p
  · exact (Ev.kick_loads .safety e p).pool

theorem Ev.frameEnd_pool (e : Ev) (p : Port) : PoolStays e (e.frameEnd p) := by
  have hidle : PoolStays e (e.setPort p { e.port p with tx := .idle }) := Ev.setTx_pool rfl fun _ => rfl
  unfold Ev.frameEnd
  split
  · exact .refl e
  · exact (hidle.trans (Ev.settleCopy_pool _ _ _)).trans (Ev.nextFrame_pool _ p)
  all_goals exact hidle.trans (Ev.nextFrame_pool _ p)

theorem Ev.restoreLink_pool (e : Ev) (x : Byte) : PoolStays e (e.restoreLink x).1 := by
  unfold Ev.restoreLink
  split
  · exact .refl e
  · split
    · exact Ev.changeLink_pool _ _ _ _ (by rfl) (by rfl)
    · exact .refl e

/-! ## SEND and its abandon -/

theorem Ev.originateData_pool (e : Ev) (o : Outgoing) : PoolStays e (e.originateData o).1 := by
  unfold Ev.originateData
  split
  · exact Ev.sendNeighbour_pool e _ _ _
  all_goals exact Ev.originate_pool e _ _

theorem Ev.acceptSend_pool (e : Ev) (n : Fin 16) (id : Nat) (seq : Word) (x : Originated) :
    PoolStays e (e.acceptSend n id seq x).1 := by
  have hrelay : ∀ (e : Ev) r, PoolStays e (e.setRelay r) := fun _ _ => .of_ports rfl rfl
  unfold Ev.acceptSend
  dsimp only
  split
  · exact (hrelay _ _).trans (Ev.offerLocal_lines _ _).pool
  · exact ((hrelay _ _).trans (Ev.offerLocal_lines _ _).pool).trans (hrelay _ _)

theorem Ev.admitSend_pool (e : Ev) (n : Fin 16) (o : Outgoing) : PoolStays e (e.admitSend n o).1 := by
  unfold Ev.admitSend
  dsimp only
  split
  · exact Ev.originateData_pool e o
  · exact (Ev.originateData_pool e o).trans (Ev.acceptSend_pool _ n _ _ _)

theorem Ev.trySend_pool (e : Ev) (n : Fin 16) (lo hi : Byte) (o : Outgoing) : PoolStays e (e.trySend n lo hi o).1 := by
  unfold Ev.trySend
  split
  · exact .refl e
  · split
    · exact .refl e
    · exact Ev.admitSend_pool e n o

theorem Ev.sendCommand_pool (e : Ev) (n : Fin 16) (a b c d f : Byte) (l : Nat) (r : List Byte) :
    PoolStays e (e.sendCommand n a b c d f l r).1 := by
  unfold Ev.sendCommand
  split
  · split
    · exact .refl e
    · split
      · exact .refl e
      · split
        · exact .refl e
        · exact Ev.trySend_pool e n c d _
  · exact .refl e

theorem Ev.abandonSend_pool (e : Ev) (id : Nat) (x : Ev × WaitSend) (h : e.abandonSend id = some x) :
    PoolStays e x.1 := by
  unfold Ev.abandonSend at h
  split at h
  · split at h
    · cases h
      have h1 : PoolStays e { e with port1 := e.port1.withoutCopies id } :=
        PoolStays.setPort (p := .p1) (LinkPort.withoutCopies_lighter _ id)
      have h2 : PoolStays { e with port1 := e.port1.withoutCopies id }
          { e with port1 := e.port1.withoutCopies id, port2 := e.port2.withoutCopies id } :=
        PoolStays.setPort (p := .p2) (LinkPort.withoutCopies_lighter _ id)
      exact (h1.trans h2).trans (.of_ports rfl rfl)
    · cases h
  · cases h

/-! ## Slot commands, every event -/

theorem Ev.adoptProfile_pool (e : Ev) (m : Memory) : PoolStays e (e.adoptProfile m).1 := by
  obtain hsame | ⟨-, hadopt⟩ := Ev.adoptProfile_cases e m
  · rw [hsame]
    exact .refl e
  · have h := Ev.adoptCar_lines e (readProfile m).1
    have h1 : PoolStays e (e.adoptCar (readProfile m).1) := .of_ports h.port1 h.port2
    rw [hadopt, Ev.adopt_eq_adoptCar]
    split
    · exact h1.trans (Ev.join_pool _ _)
    · exact h1

theorem Ev.doorCommand_pool (e : Ev) (c : DoorCmd) : PoolStays e (e.doorCommand c).1 := by
  obtain hlocal | ⟨t, ht⟩ := Ev.doorCommand_cases e c
  · exact hlocal.pool
  · rw [ht]
    exact (Ev.originate_pool e _ _).trans (Ev.takeLocalDoor_lines _ t).pool

theorem Ev.dispatch_pool (e : Ev) (m : Memory) (n : Fin 16) (c : SlotCmd) : PoolStays e (e.dispatch m n c).1 := by
  cases c with
  | adoptProfile => exact Ev.adoptProfile_pool e m
  | setCab x => exact Ev.setCab_pool e x
  | startSweep => exact Ev.startSweep_pool e n
  | send cls mode lo hi flags plen rest => exact Ev.sendCommand_pool e n _ _ _ _ _ _ _
  | door action scope side lo hi number attest => exact Ev.doorCommand_pool e _
  | heatSet setpoint gain boost => exact (Ev.heatSet_lines e _ _ _).pool
  | budget b vlow => exact (Ev.budget_lines e _ _).pool
  | monitor start stop mode => exact (Ev.monitorCommand_lines e n _ _ _).pool
  | restoreLink port => exact Ev.restoreLink_pool e port

theorem Ev.windowEnd_pool (e : Ev) : PoolStays e e.windowEnd := by
  unfold Ev.windowEnd
  split
  · exact .of_ports (Ev.endWindow_lines e).port1 (Ev.endWindow_lines e).port2
  · exact .refl e

/-- After a reset the ports hold nothing but the first marks. -/
theorem Ev.release_pool (b : Blocks) : (Ev.start b.afterReset).release.toBlocks.poolSafe := by
  have hsorted : ∀ i, LinkPort.sorted { tx := .mark i } := fun i c q hq => by
    cases c
    all_goals cases hq
  rw [Ev.release_eq]
  refine ⟨?_, hsorted 0, hsorted 0⟩
  show State.reset.blk.plainHeld + max (State.reset.blk.occ .safety) Config.safetyReserve ≤ Config.poolCells
  decide

/-- R51 through every event: cells are taken by the relay block's placing of copies alone. -/
theorem poolSafe_eventsKeep : EventsKeep Blocks.poolSafe where
  reset b _ := Ev.release_pool b
  detach _ h := h
  dispatch := Ev.dispatch_pool
  abandonSweep := Ev.abandonSweep_pool
  abandonSend := Ev.abandonSend_pool
  markDue := Ev.markDue_pool
  frameEnd := Ev.frameEnd_pool
  markReceived := Ev.markReceived_pool
  frameError := Ev.frameError_pool
  silenceExpiry := Ev.silenceExpiry_pool
  windowsEnd := Ev.windowsEnd_pool
  arrive := poolSafe_arrivalKeeps.arrive
  returnExpiry := Ev.returnExpiry_pool
  carryExpiry := Ev.carryExpiry_pool
  beaconExpiry := Ev.beaconExpiry_pool
  watchExpiry := Ev.watchExpiry_pool
  settleExpiry := Ev.settleExpiry_pool
  ageExpiry e := (Ev.ageExpiry_lines e).pool
  transition _ _ h := h
  illegal _ h := h
  windowEnd := Ev.windowEnd_pool
  contactMakes e s d := (Ev.contactMakes_lines e s d).pool
  contactOpens e s d := (Ev.contactOpens_lines e s d).pool
  tickAll e := PoolStays.of_ports (Ev.tickAll_lines e).2.1 (Ev.tickAll_lines e).2.2.1
  closeLimit e s d := (Ev.closeLimit_lines e s d).pool
  grantExpiry e := (Ev.grantExpiry_lines e).pool
  cycleStart e := (Ev.cycleStart_lines e).pool
  refComplete e tb := (Ev.refComplete_lines e tb).pool
  refAbort e := (Ev.refAbort_lines e).pool
  senseResult e x := (Ev.senseResult_lines e x).pool
  periodExpiry e := (Ev.periodExpiry_lines e).pool
  scanDone e a b c d := (Ev.scanDone_lines e a b c d).pool

/-- Settles O58: every event keeps the pool within its bound, and a step is one command of events. -/
theorem poolKept : Obligations.PoolKept := by
  unfold Obligations.PoolKept
  intro s t h ht
  exact step_keeps poolSafe_eventsKeep h ht

end Sys2Proof.Machine
end


section
/-! SUPPORT. A slot command row at a slot that takes it: its body parses to its command, and the answer of the owning block is the row's. -/

namespace Sys2Proof.Machine

section
variable {s : State} {n : Fin 16} {tag : Byte} {kind : Nat} {body : List Byte} {c : SlotCmd}

/-- A command that leaves the event at `e`. -/
theorem State.command_leaves {e : Ev} {r : TakeResult} (h : s.ready n tag)
    (hc : parseCmd kind body.length body = .ok c) (hd : ∀ m, (Ev.start s.blk).dispatch m n c = (e, r)) :
    s.command n tag kind body = s.answered n tag kind body e.toBlocks r e.allEffects := by
  rw [State.command_taken s n tag kind body h c hc]
  dsimp only
  rw [hd]

/-- A command that its block answers and does nothing else about. -/
theorem State.command_same {r : TakeResult} (h : s.ready n tag) (hc : parseCmd kind body.length body = .ok c)
    (hd : ∀ m, (Ev.start s.blk).dispatch m n c = (Ev.start s.blk, r)) :
    s.command n tag kind body = s.answered n tag kind body s.blk r [] := State.command_leaves h hc hd

/-- A command that its block answers after an operation. -/
theorem State.command_doing {r : TakeResult} {b : Blocks} {g : Ev → Ev} (h : s.ready n tag)
    (hc : parseCmd kind body.length body = .ok c)
    (hd : ∀ m, (Ev.start s.blk).dispatch m n c = (g (Ev.start b), r)) :
    s.command n tag kind body = s.answeredDoing n tag kind body b r g := State.command_leaves h hc hd

end

/-! ## What the bodies parse to (11.3) -/

theorem parseCmd_heatSet (w : Word) (g b : Byte) :
    parseCmd 6 (wordBytes w ++ [g, b]).length (wordBytes w ++ [g, b]) = .ok (.heatSet w g b) := by
  show Except.ok (SlotCmd.heatSet (packWord (loByte w) (hiByte w)) g b) = _
  rw [packWord_bytes]

theorem parseCmd_budget (b v : Word) :
    parseCmd 7 (wordBytes b ++ wordBytes v).length (wordBytes b ++ wordBytes v) = .ok (.budget b v) := by
  show Except.ok (SlotCmd.budget (packWord (loByte b) (hiByte b)) (packWord (loByte v) (hiByte v))) = _
  rw [packWord_bytes, packWord_bytes]

end Sys2Proof.Machine
end

section
/-! PROOF. The commands of the heating blocks, the monitor and the ports: HEAT_SET, BUDGET, RESTORE_LINK, MONITOR. -/

namespace Sys2Proof.Machine

/-! ## HEAT_SET (R127, R129) -/

theorem Channel.usable_iff (c : Channel) : c.usable = true ↔ c.state = .valid ∨ c.state = .stale := by
  unfold Channel.usable
  rw [Bool.or_eq_true, beq_iff_eq, beq_iff_eq]

/-- The demand that R127 forms, item by item. -/
theorem Blocks.formDemand_eq (b : Blocks) :
    b.formDemand = { b.demand with
      d := if b.converter.chA.state = .valid ∨ b.converter.chA.state = .stale then
          byte (min 255 ((b.demand.setpoint.toNat - b.converter.chA.code.toNat) * b.demand.gain.toNat / 256 +
            if b.boostCond then b.demand.boost.toNat else 0))
        else byte b.profile.s
      basis := if b.converter.chA.state = .valid ∨ b.converter.chA.state = .stale then .code else .standby
      boostOn := b.boostCond } := by
  unfold Blocks.formDemand demandBase
  by_cases h : b.converter.chA.usable = true
  · rw [if_pos ((Channel.usable_iff _).mp h), if_pos ((Channel.usable_iff _).mp h)]
    dsimp only
    rw [if_pos h]
  · rw [if_neg fun k => h ((Channel.usable_iff _).mpr k), if_neg fun k => h ((Channel.usable_iff _).mpr k)]
    dsimp only
    rw [if_neg h]

/-- Settles O11: the two branches of the command, the demand by R127. -/
theorem heatSet : Obligations.HeatSet := by
  unfold Obligations.HeatSet
  intro n tag setpoint gain boost s hr
  refine ⟨fun hb => congrArg Host.Outcome.next ?_, fun hb => congrArg Host.Outcome.next ?_⟩
  · exact State.command_same hr (parseCmd_heatSet setpoint gain boost) fun _ => if_pos hb
  · refine (State.command_leaves hr (parseCmd_heatSet setpoint gain boost) fun _ =>
      if_neg (Nat.not_lt.mpr hb)).trans ?_
    dsimp only [Ev.recompute]
    rw [Blocks.formDemand_eq]
    rfl

/-! ## BUDGET (R147) -/

/-- Settles O12: the two branches of the command. -/
theorem budget : Obligations.Budget := by
  unfold Obligations.Budget
  intro n tag b vlow s hr
  refine ⟨fun hb => congrArg Host.Outcome.next ?_, fun hb hv => congrArg Host.Outcome.next ?_⟩
  · exact State.command_same hr (parseCmd_budget b vlow) fun _ => if_pos hb
  · exact State.command_leaves hr (parseCmd_budget b vlow) fun _ => if_neg (by omega)

/-! ## RESTORE_LINK (R17) -/

theorem portOf_none {x : Byte} (h1 : x.toNat ≠ 1) (h2 : x.toNat ≠ 2) : portOf x = none := by
  cases hp : portOf x with
  | none => rfl
  | some p =>
    have hx := (portOf_iff x p).mp hp
    cases p
    · exact absurd hx h1
    · exact absurd hx h2

theorem Ev.restoreLink_notPort (e : Ev) {x : Byte} (h : portOf x = none) : e.restoreLink x = (e, .no .badField) := by
  unfold Ev.restoreLink
  rw [h]

theorem Ev.restoreLink_port (e : Ev) {x : Byte} {p : Port} (h : portOf x = some p) :
    e.restoreLink x =
      if (e.port p).state = .faulted then (e.resettle p .restore, .done (word (portNum p)) 0 0)
      else (e, .no .notFaulted) := by
  unfold Ev.restoreLink
  rw [h]

/-- Settles O13: the refusals, and the change of the link of R10. -/
theorem restoreLink : Obligations.RestoreLink := by
  unfold Obligations.RestoreLink
  intro n tag port s hr
  refine ⟨fun h1 h2 => congrArg Host.Outcome.next ?_, fun p hp => ?_⟩
  · exact State.command_same (c := .restoreLink port) hr (by rfl) fun _ => Ev.restoreLink_notPort _ (portOf_none h1 h2)
  · have hport := Ev.restoreLink_port (Ev.start s.blk) ((portOf_iff port p).mpr hp)
    refine ⟨fun hs => congrArg Host.Outcome.next ?_, fun hs => congrArg Host.Outcome.next ?_⟩
    · exact State.command_same (c := .restoreLink port) hr (by rfl) fun _ => hport.trans (if_neg hs)
    · refine (State.command_leaves (c := .restoreLink port) hr (by rfl) fun _ => hport.trans (if_pos hs)).trans ?_
      have hold : ((Ev.start s.blk).port p).state = .faulted := hs
      unfold Ev.resettle Ev.changeLink
      rw [hold]
      cases p
      · rfl
      · rfl

/-! ## MONITOR (R133) -/

theorem monModeOf_none {x : Nat} (h : 3 < x) : monModeOf x = none := by
  unfold monModeOf
  split
  · omega
  · omega
  · omega
  · omega
  · rfl

/-- The completion of the waiting ONCE slot, if one waits. -/
def supersededEffects (m : Monitor) : List Effect :=
  match m.waitSlot with
  | some k => [.complete k 2 0 0]
  | none => []

/-- An accepted MONITOR up to what its mode starts. -/
theorem Ev.monitorTaken_eq (b : Blocks) (m : Monitor) :
    ((Ev.start b).setMonitor m).complete (Ev.start b).monitor.waitSlot 2 0 0 =
      { Ev.start { b with monitor := m } with effects := supersededEffects b.monitor } := by
  unfold supersededEffects Ev.complete
  split
  · next h =>
    have hb : b.monitor.waitSlot = some _ := h
    rw [hb]
    rfl
  · next h =>
    have hb : b.monitor.waitSlot = none := h
    rw [hb]
    rfl

/-- The event of an accepted MONITOR. -/
def Blocks.monitorTaken (b : Blocks) (m : Monitor) (asks : List PageId) : Ev :=
  { toBlocks := { b with monitor := m }, effects := supersededEffects b.monitor, asks := asks }

section
variable {b : Blocks} {n : Fin 16} {start stop mode : Byte}
  (h : ¬ (3 < start.toNat ∨ 3 < stop.toNat ∨ stop.toNat < start.toNat))
include h

theorem Ev.monitorCommand_off (hm : mode.toNat = 0) :
    (Ev.start b).monitorCommand n start stop mode =
      (b.monitorTaken (b.monitor.accept start.toNat stop.toNat .off) [.monitor], .ok) := by
  unfold Ev.monitorCommand
  rw [hm, show monModeOf 0 = some .off from rfl]
  dsimp only
  rw [if_neg h, Ev.monitorTaken_eq]
  rfl

theorem Ev.monitorCommand_once (hm : mode.toNat = 1) :
    (Ev.start b).monitorCommand n start stop mode =
      (b.monitorTaken { b.monitor.accept start.toNat stop.toNat .once with
        waitSlot := some n, scan := .scanning start.toNat [] } [], .taken .once 0) := by
  unfold Ev.monitorCommand
  rw [hm, show monModeOf 1 = some .once from rfl]
  dsimp only
  rw [if_neg h, Ev.monitorTaken_eq]
  rfl

theorem Ev.monitorCommand_continuous (hm : mode.toNat = 2) :
    (Ev.start b).monitorCommand n start stop mode =
      (b.monitorTaken { b.monitor.accept start.toNat stop.toNat .continuous with
        period := .running b.tick, scan := .scanning start.toNat [] } [], .ok) := by
  unfold Ev.monitorCommand
  rw [hm, show monModeOf 2 = some .continuous from rfl]
  dsimp only
  rw [if_neg h, Ev.monitorTaken_eq]
  rfl

theorem Ev.monitorCommand_onBeacon (hm : mode.toNat = 3) :
    (Ev.start b).monitorCommand n start stop mode =
      (b.monitorTaken (b.monitor.accept start.toNat stop.toNat .onBeacon) [], .ok) := by
  unfold Ev.monitorCommand
  rw [hm, show monModeOf 3 = some .onBeacon from rfl]
  dsimp only
  rw [if_neg h, Ev.monitorTaken_eq]
  rfl

end

theorem Ev.monitorCommand_refused (e : Ev) (n : Fin 16) {start stop mode : Byte}
    (h : 3 < start.toNat ∨ 3 < stop.toNat ∨ stop.toNat < start.toNat ∨ 3 < mode.toNat) :
    e.monitorCommand n start stop mode = (e, .no .badField) := by
  unfold Ev.monitorCommand
  split
  · rfl
  · next m hm =>
    refine if_pos ?_
    by_contra hn
    have h3 : 3 < mode.toNat := by omega
    rw [monModeOf_none h3] at hm
    cases hm

/-- Settles O14: the refusals, then the mode's own branch of the command. -/
theorem monitorCommand : Obligations.MonitorCommand := by
  unfold Obligations.MonitorCommand
  intro n tag start stop mode s hr
  have hleaves : ∀ {e r}, (Ev.start s.blk).monitorCommand n start stop mode = (e, r) →
      exec (.monitor n tag start stop mode) s =
        .next (s.answered n tag 8 [start, stop, mode] e.toBlocks r e.allEffects) := fun h =>
    congrArg Host.Outcome.next (State.command_leaves (c := .monitor start stop mode) hr (by rfl) fun _ => h)
  have hnone : ∀ xs : List Effect, xs ++ [] = xs := List.append_nil
  refine ⟨fun hbad => hleaves (Ev.monitorCommand_refused _ n hbad), fun h1 h2 => ?_⟩
  have hrange : ¬ (3 < start.toNat ∨ 3 < stop.toNat ∨ stop.toNat < start.toNat) := by omega
  refine ⟨fun hm => hleaves (Ev.monitorCommand_off hrange hm), fun hm => ?_, fun hm => ?_, fun hm => ?_⟩
  · rw [hleaves (Ev.monitorCommand_once hrange hm), Ev.allEffects]
    exact congrArg _ (congrArg _ (hnone _))
  · rw [hleaves (Ev.monitorCommand_continuous hrange hm), Ev.allEffects]
    exact congrArg _ (congrArg _ (hnone _))
  · rw [hleaves (Ev.monitorCommand_onBeacon hrange hm), Ev.allEffects]
    exact congrArg _ (congrArg _ (hnone _))

end Sys2Proof.Machine
end


section
/-! PROOF. The commands of the consist block: SET_CAB (R24, R25), START_SWEEP (R27), and ABANDON (R28, R72, R171). -/

namespace Sys2Proof.Machine

/-! ## SET_CAB (R24, R25) -/

theorem Ev.setCab_badField (e : Ev) {x : Byte} (h0 : x ≠ 0) (h : portOf x = none) :
    e.setCab x = (e, .no .badField) := by
  unfold Ev.setCab
  rw [if_neg h0, h]

theorem Ev.setCab_port (e : Ev) {x : Byte} {p : Port} (h : x.toNat = portNum p) : e.setCab x = e.activateCab p := by
  have h0 : x ≠ 0 := by
    rintro rfl
    cases p
    all_goals cases h
  unfold Ev.setCab
  rw [if_neg h0, (portOf_iff x p).mpr h]

theorem Ev.setCab_none (e : Ev) : e.setCab 0 = (e.deactivate, .ok) := rfl

section
variable {e : Ev} {p : Port}

theorem Ev.activateCab_active (h : e.consist.cabEnd = some p) : e.activateCab p = (e, .ok) := if_pos h

theorem Ev.activateCab_unprofiled (h : e.consist.cabEnd ≠ some p) (hi : e.profile.identity = 0) :
    e.activateCab p = (e, .no .unprofiled) := by
  unfold Ev.activateCab
  rw [if_neg h, if_pos hi]

theorem Ev.activateCab_notFitted (h : e.consist.cabEnd ≠ some p) (hi : e.profile.identity ≠ 0)
    (hc : e.profile.cabAt p = false) : e.activateCab p = (e, .no .cabNotFitted) := by
  unfold Ev.activateCab
  rw [if_neg h, if_neg hi, if_pos hc]

theorem Ev.activateCab_coupled (h : e.consist.cabEnd ≠ some p) (hi : e.profile.identity ≠ 0)
    (hc : e.profile.cabAt p = true) (hs : (e.port p).state = .up ∨ (e.port p).state = .settling) :
    e.activateCab p = (e, .no .cabEndCoupled) := by
  unfold Ev.activateCab
  rw [if_neg h, if_neg hi, if_neg (by rw [hc]; decide), if_pos hs]

theorem notCoupled {st : LinkState} (h : st = .dead ∨ st = .faulted) : ¬ (st = .up ∨ st = .settling) := by
  rcases h with rfl | rfl
  · decide
  · decide

theorem Ev.activateCab_otherActive (h : e.consist.cabEnd ≠ some p) (hi : e.profile.identity ≠ 0)
    (hc : e.profile.cabAt p = true) (hs : (e.port p).state = .dead ∨ (e.port p).state = .faulted)
    (hn : e.consist.cabEnd ≠ none) : e.activateCab p = (e, .no .cabActive) := by
  unfold Ev.activateCab
  rw [if_neg h, if_neg hi, if_neg (by rw [hc]; decide), if_neg (notCoupled hs), if_pos hn]

theorem Ev.activateCab_activates (hi : e.profile.identity ≠ 0) (hc : e.profile.cabAt p = true)
    (hs : (e.port p).state = .dead ∨ (e.port p).state = .faulted) (hn : e.consist.cabEnd = none) :
    e.activateCab p = (e.activate p, .done ((nextNumber e.consist.lastGen).setWidth 16) 0 0) := by
  unfold Ev.activateCab
  rw [if_neg (by rw [hn]; exact nofun), if_neg hi, if_neg (by rw [hc]; decide), if_neg (notCoupled hs),
    if_neg (fun h => h hn)]

end

/-- The cab fitted at an end, as the statements write it. -/
theorem Profile.cabAt_eq (f : Profile) (p : Port) : f.cabAt p = match p with | .p1 => f.cab1 | .p2 => f.cab2 := by
  cases p
  · rfl
  · rfl

theorem setCabRefused_holds : Says.SetCabRefused := by
  intro n tag x s hr
  have hsame : ∀ {r}, (Ev.start s.blk).setCab x = (Ev.start s.blk, r) →
      exec (.setCab n tag x) s = .next (s.answered n tag 2 [x] s.blk r []) := fun h =>
    congrArg Host.Outcome.next (State.command_same (c := .setCab x) hr (by rfl) fun _ => h)
  refine ⟨fun h3 => hsame ?_, fun p hp => ?_⟩
  · refine Ev.setCab_badField _ (fun h0 => ?_) (portOf_none (by omega) (by omega))
    rw [h0] at h3
    exact absurd h3 (by decide)
  · have hport : ∀ {r}, (Ev.start s.blk).activateCab p = (Ev.start s.blk, r) → _ := fun h =>
      hsame ((Ev.setCab_port (Ev.start s.blk) hp).trans h)
    have hcab := Profile.cabAt_eq s.blk.profile p
    refine ⟨fun h => hport (Ev.activateCab_active h), fun h => ⟨fun hi => hport (Ev.activateCab_unprofiled h hi),
      fun hi => ⟨fun hc => ?_, fun hc => ⟨fun hs => ?_, fun hs hn => ?_⟩⟩⟩⟩
    · exact hport (Ev.activateCab_notFitted h hi (hcab.trans hc))
    · exact hport (Ev.activateCab_coupled h hi (hcab.trans hc) hs)
    · exact hport (Ev.activateCab_otherActive h hi (hcab.trans hc) hs hn)

theorem setCabActivates_holds : Says.SetCabActivates := by
  intro n tag x s p hr hx hn hi hc hs
  refine congrArg Host.Outcome.next (State.command_doing (c := .setCab x) hr (by rfl) fun _ => ?_)
  refine (Ev.setCab_port _ hx).trans ?_
  rw [Ev.activateCab_activates hi ((Profile.cabAt_eq s.blk.profile p).trans hc) hs hn]
  rfl

/-- The deactivation of the cab at an end (R25). -/
theorem Ev.deactivate_cab {e : Ev} {p : Port} {t : LiveTable} (hc : e.consist.cabEnd = some p)
    (ht : e.consist.table = some t) :
    e.deactivate = (((e.sendDissolve (portOther p)).stopSweep .deactivated).leaveLead).noteLost .deactivated t := by
  unfold Ev.deactivate
  rw [hc, ht]

theorem setCabNone_holds : Says.SetCabNone := by
  intro n tag s hr
  refine ⟨fun hc => congrArg Host.Outcome.next ?_, fun p t hc ht => congrArg Host.Outcome.next ?_⟩
  · refine State.command_same (c := .setCab 0) hr (by rfl) fun _ => ?_
    refine (Ev.setCab_none _).trans ?_
    unfold Ev.deactivate
    rw [show (Ev.start s.blk).consist.cabEnd = none from hc]
  · refine State.command_doing (c := .setCab 0) hr (by rfl) fun _ => ?_
    refine (Ev.setCab_none _).trans ?_
    have hgen : (Ev.start s.blk).liveGen = t.gen := by
      show (match s.blk.consist.table with | some t => t.gen | none => 0) = t.gen
      rw [ht]
    rw [Ev.deactivate_cab (e := Ev.start s.blk) hc ht]
    unfold Ev.sendDissolve Ev.stopSweep
    rw [hgen, (Ev.sendFamily_kept (Ev.start s.blk) (portOther p) .dissolve [t.gen]).consist]
    cases (Ev.start s.blk).consist.sweep with
    | idle | carrying | resweepWait => rfl
    | awaitReturn k => rfl

/-- Settles O15: the refusals in their order, the activation and the deactivation. -/
theorem setCab : Obligations.SetCab := by
  unfold Obligations.SetCab
  exact ⟨setCabRefused_holds, setCabActivates_holds, setCabNone_holds⟩

/-! ## START_SWEEP (R27) -/

/-- Settles O16: the branches of the command. -/
theorem startSweep : Obligations.StartSweep := by
  unfold Obligations.StartSweep
  intro n tag s hr
  have hsame : ∀ {r}, (Ev.start s.blk).startSweep n = (Ev.start s.blk, r) →
      exec (.startSweep n tag) s = .next (s.answered n tag 3 [] s.blk r []) := fun h =>
    congrArg Host.Outcome.next (State.command_same (c := .startSweep) hr (by rfl) fun _ => h)
  refine ⟨fun hrole => hsame ?_, fun t hrole ht => ⟨fun k hk => hsame ?_, fun hk => ?_⟩⟩
  · unfold Ev.startSweep
    split
    · next h _ => exact absurd h hrole
    · rfl
  · unfold Ev.startSweep
    rw [show (Ev.start s.blk).consist.role = .lead from hrole, show (Ev.start s.blk).consist.table = some t from ht]
    dsimp only
    rw [show (Ev.start s.blk).consist.sweep = .awaitReturn k from hk]
  · refine congrArg Host.Outcome.next (State.command_doing (c := .startSweep) hr (by rfl) fun _ => ?_)
    show (Ev.start s.blk).startSweep n = _
    unfold Ev.startSweep
    rw [show (Ev.start s.blk).consist.role = .lead from hrole, show (Ev.start s.blk).consist.table = some t from ht]
    rcases hk with hk | hk
    all_goals
      dsimp only
      rw [show (Ev.start s.blk).consist.sweep = _ from hk]
      rfl

/-! ## ABANDON (R171) -/

/-- The state after the host has written the request ABANDON, its kind kept (log entry 4). -/
def State.asksAbandon (s : State) (n : Fin 16) (tag : Byte) : State :=
  { s with
    host := s.host.write (slotAddr n 0)
      (word (0x2000 + 256 * ((s.host.read (slotAddr n 0)).toNat / 256 % 16) + tag.toNat)) }

/-- The ABANDON row while SCAN is 1: the slot acts only when it is TAKEN with this tag. -/
theorem State.abandon_eq {s : State} (n : Fin 16) (tag : Byte) (hs : s.ifc.scan = true) :
    s.abandon n tag =
      if tag = (s.ifc.slot n).tagEcho ∧ (s.ifc.slot n).state = .taken then (s.asksAbandon n tag).abandonSlot n
      else s.asksAbandon n tag := by
  have hw : requestWord .abandon (parseRequest (s.host.read (slotAddr n 0))).kind tag =
      word (0x2000 + 256 * ((s.host.read (slotAddr n 0)).toNat / 256 % 16) + tag.toNat) := by
    unfold requestWord parseRequest
    congr 1
    dsimp only
    omega
  unfold State.abandon
  dsimp only
  rw [if_pos hs, hw]
  rfl

theorem Ev.abandonSweep_some {e : Ev} {k : Nat} (h : e.consist.sweep = .awaitReturn k) :
    e.abandonSweep =
      some (((e.setConsist { e.consist with returnT := .stopped, sweep := .idle, sweepSlot := none }).publishNow
        .consist).startBeacons, hiLo e.liveGen.toNat e.cars) := by
  unfold Ev.abandonSweep
  rw [h]

theorem Ev.abandonSweep_none {e : Ev} (h : ∀ k, e.consist.sweep ≠ .awaitReturn k) : e.abandonSweep = none := by
  unfold Ev.abandonSweep
  split
  · next k hk => exact absurd hk (h k)
  all_goals rfl

section
variable {s : State} {n : Fin 16} {op : SlotOp} (h : (s.ifc.slot n).op = some op)
include h

theorem State.abandonSlot_once (ho : op = .once) : s.abandonSlot n = s := by
  subst ho
  unfold State.abandonSlot
  rw [h]

theorem State.abandonSlot_sweep (ho : op = .sweep) :
    s.abandonSlot n = match (Ev.start s.blk).abandonSweep with
      | some x => { s with ifc := s.ifc.finishSlot n .abandoned 0 0 x.2 0 }.finish x.1
      | none => s := by
  subst ho
  unfold State.abandonSlot
  rw [h]
  dsimp only
  cases (Ev.start s.blk).abandonSweep with
  | some x => rfl
  | none => rfl

theorem State.abandonSlot_send {q : Nat} (ho : op = .send q) :
    s.abandonSlot n = match (Ev.start s.blk).abandonSend q with
      | some x => { s with ifc := s.ifc.finishSlot n .abandoned 0 x.2.seq (hiLo x.2.sent 0) 0 }.finish x.1
      | none => s := by
  subst ho
  unfold State.abandonSlot
  rw [h]
  dsimp only
  cases (Ev.start s.blk).abandonSend q with
  | some x => rfl
  | none => rfl

end

theorem Ev.abandonSend_some {e : Ev} {q : Nat} {w : WaitSend} (hw : findSend q e.relay.waiting = some w)
    (hq : e.port1.hasQueued q = true ∨ e.port2.hasQueued q = true) :
    e.abandonSend q = some ({ e with toBlocks := e.toBlocks.withoutSend q }, w) := by
  unfold Ev.abandonSend
  rw [hw]
  exact if_pos hq

theorem Ev.abandonSend_notFound {e : Ev} {q : Nat} (hw : findSend q e.relay.waiting = none) :
    e.abandonSend q = none := by
  unfold Ev.abandonSend
  rw [hw]

theorem Ev.abandonSend_notQueued {e : Ev} {q : Nat} (h1 : e.port1.hasQueued q = false)
    (h2 : e.port2.hasQueued q = false) : e.abandonSend q = none := by
  unfold Ev.abandonSend
  split
  · exact if_neg (by rw [h1, h2]; decide)
  · rfl

theorem abandonRow_holds : Says.AbandonRow := by
  intro n tag s hs
  have hrow : exec (.abandon n tag) s = .next (s.abandon n tag) := rfl
  rw [State.abandon_eq n tag hs] at hrow
  refine ⟨fun h => hrow.trans (congrArg Host.Outcome.next ?_), fun htag hst => ?_⟩
  · split
    · next ht =>
      rcases h with h | h | h
      · exact absurd ht.1 h
      · exact absurd ht.2 h
      · exact State.abandonSlot_once (s := s.asksAbandon n tag) h rfl
    · rfl
  · rw [if_pos ⟨htag, hst⟩] at hrow
    refine ⟨fun hop => ⟨fun k hk => hrow.trans (congrArg Host.Outcome.next ?_),
      fun hk => hrow.trans (congrArg Host.Outcome.next ?_)⟩, fun q hop =>
      ⟨fun h1 h2 => hrow.trans (congrArg Host.Outcome.next ?_), fun hf => hrow.trans (congrArg Host.Outcome.next ?_),
        fun v hf hq => hrow.trans (congrArg Host.Outcome.next ?_)⟩⟩
    · rw [State.abandonSlot_sweep (s := s.asksAbandon n tag) hop rfl,
        Ev.abandonSweep_some (e := Ev.start (s.asksAbandon n tag).blk) hk]
      rfl
    · rw [State.abandonSlot_sweep (s := s.asksAbandon n tag) hop rfl,
        Ev.abandonSweep_none (e := Ev.start (s.asksAbandon n tag).blk) hk]
      rfl
    · rw [State.abandonSlot_send (s := s.asksAbandon n tag) hop rfl,
        Ev.abandonSend_notQueued (e := Ev.start (s.asksAbandon n tag).blk) h1 h2]
      rfl
    · rw [State.abandonSlot_send (s := s.asksAbandon n tag) hop rfl,
        Ev.abandonSend_notFound (e := Ev.start (s.asksAbandon n tag).blk) hf]
      rfl
    · rw [State.abandonSlot_send (s := s.asksAbandon n tag) hop rfl,
        Ev.abandonSend_some (e := Ev.start (s.asksAbandon n tag).blk) hf hq]
      rfl

/-! ## The copies an abandon removes (R66, R72) -/

theorem QTel.isCopy_iff (q : QTel) (id : Nat) : q.isCopy id = true ↔ q.origin = some id := beq_iff_eq

theorem dropCopies_eq (id : Nat) (qs : List QTel) :
    dropCopies id qs = qs.filter fun x => decide (x.origin ≠ some id) := by
  unfold dropCopies
  refine List.filter_congr fun x _ => ?_
  rw [decide_not, ← beq_eq_decide]
  rfl

theorem LinkPort.hasQueued_iff (lp : LinkPort) (q : Nat) :
    lp.hasQueued q = true ↔ ∃ c : Fin 4, ∃ x ∈ lp.queues.get c, x.origin = some q := by
  have hq : ∀ qs : List QTel, (qs.any fun x => x.isCopy q) = true ↔ ∃ x ∈ qs, x.origin = some q := fun qs => by
    simp only [List.any_eq_true, QTel.isCopy_iff]
  unfold LinkPort.hasQueued
  simp only [Quad.toList, List.any_cons, List.any_nil, Bool.or_false, Bool.or_eq_true, hq]
  constructor
  · rintro (h | h | h | h)
    · exact ⟨0, h⟩
    · exact ⟨1, h⟩
    · exact ⟨2, h⟩
    · exact ⟨3, h⟩
  · rintro ⟨c, h⟩
    match c with
    | 0 => exact .inl h
    | 1 => exact .inr (.inl h)
    | 2 => exact .inr (.inr (.inl h))
    | 3 => exact .inr (.inr (.inr h))

theorem copiesRemoved_holds : Says.CopiesRemoved := by
  intro lp q
  refine ⟨LinkPort.hasQueued_iff lp q, ?_⟩
  unfold LinkPort.withoutCopies
  simp only [dropCopies_eq]
  cases htx : lp.tx with
  | telegram x =>
    simp only [Transmit.detach, QTel.isCopy_iff]
  | idle | mark i | abort => rfl

/-- Settles O17: the row is one visit, which ends what the slot reports where that can still be ended. -/
theorem abandon : Obligations.Abandon := by
  unfold Obligations.Abandon
  exact ⟨abandonRow_holds, copiesRemoved_holds⟩

end Sys2Proof.Machine
end


section
/-! PROOF. The registers of the exchange interface (R163 to R165, R182). -/

namespace Sys2Proof.Machine

/-! ## CONTROL (R164, R182) -/

/-- The three rows that write CONTROL are one write of register 1 (log entry 5). -/
theorem exec_control {w : Word} {c : Instr} (s : State) (h : c = .scan w ∨ c = .deliver w ∨ c = .ifreset w) :
    exec c s = .next (s.writeControl w) := by
  rcases h with rfl | rfl | rfl
  all_goals rfl

theorem controlWrite_holds : Says.ControlWrite := by
  intro w s c hc hw
  simp only [List.mem_cons, List.not_mem_nil, or_false] at hc
  rw [exec_control s hc]
  unfold State.writeControl controlIfreset
  rw [hw]
  rfl

theorem Iface.restart_slot (i : Iface) (n : Fin 16) : i.restart.slot n = {} := by
  unfold Iface.slot Iface.restart
  exact Vector.getElem_map _ n.isLt

theorem Iface.restart_page (i : Iface) (p : PageId) : i.restart.page p = (i.page p).restart := by
  unfold Iface.page Iface.restart
  exact Vector.getElem_map _ (pageIdx p).isLt

theorem Iface.restart_queue (i : Iface) (q : Fin 4) : i.restart.queues.get q = (i.queues.get q).restart := by
  match q with
  | 0 | 1 | 2 | 3 => rfl

theorem interfaceRestart_holds : Says.InterfaceRestart := by
  intro w s c hc hw
  have hrow : exec c s = .next s.restartIface := by
    simp only [List.mem_cons, List.not_mem_nil, or_false] at hc
    rw [exec_control s (by tauto)]
    unfold State.writeControl controlIfreset
    rw [hw]
    rfl
  have hint : s.ifc.restart.intLow = false := by
    show (0#5 &&& s.ifc.enable != 0) = false
    rw [BitVec.zero_and]
    rfl
  exact ⟨s.restartIface, hrow, rfl, rfl, Iface.restart_slot s.ifc, rfl, Iface.restart_page s.ifc,
    Iface.restart_queue s.ifc, rfl, rfl, hint, rfl, rfl, rfl⟩

/-- Settles O3: a write without bit 15 sets the switches, one with it restarts the interface. -/
theorem controlRegister : Obligations.ControlRegister := by
  unfold Obligations.ControlRegister
  exact ⟨controlWrite_holds, interfaceRestart_holds⟩

/-! ## CAUSE, CAUSE_ENABLE and the window (R163, R165) -/

theorem Iface.intLow_iff (i : Iface) :
    i.intLow = true ↔ ∃ k < 5, i.cause.getLsbD k = true ∧ i.enable.getLsbD k = true := by
  have hbit : ∀ k, (i.cause &&& i.enable).getLsbD k = true ↔ i.cause.getLsbD k = true ∧ i.enable.getLsbD k = true :=
    fun k => by rw [BitVec.getLsbD_and, Bool.and_eq_true]
  unfold Iface.intLow
  rw [bne_iff_ne]
  constructor
  · intro hne
    by_contra hno
    refine hne (BitVec.eq_of_getLsbD_eq fun k hk => ?_)
    show _ = (0#5).getLsbD k
    rw [BitVec.getLsbD_zero]
    exact Bool.eq_false_iff.mpr fun ht => hno ⟨k, hk, (hbit k).mp ht⟩
  · rintro ⟨k, -, hk⟩ h0
    have ht := (hbit k).mpr hk
    rw [show i.cause &&& i.enable = 0#5 from h0, BitVec.getLsbD_zero] at ht
    cases ht

theorem causeRegisters_holds : Says.CauseRegisters := by
  refine ⟨fun w s => ⟨_, rfl, rfl, fun k hk => ?_⟩, fun w s => ⟨_, rfl, rfl, fun k hk => ?_⟩, Iface.intLow_iff⟩
  · show (s.ifc.cause &&& ~~~(w.setWidth 5)).getLsbD k = _
    simp only [BitVec.getLsbD_and, BitVec.getLsbD_not, BitVec.getLsbD_setWidth, hk, decide_true, Bool.true_and]
  · show (w.setWidth 5).getLsbD k = _
    simp only [BitVec.getLsbD_setWidth, hk, decide_true, Bool.true_and]

/-- The switches as CONTROL shows them. -/
theorem controlWord_bit (a b : Bool) (k : Nat) (hk : k < 16) :
    (word (flagNat a + 2 * flagNat b)).getLsbD k = ((k == 0 && a) || (k == 1 && b)) := by
  interval_cases k
  all_goals
    revert a b
    decide

theorem registerWindow_holds : Says.RegisterWindow := by
  refine ⟨fun s => ⟨rfl, rfl, rfl, rfl, rfl⟩, fun s k hk => ⟨controlWord_bit _ _ k hk, ?_, ?_⟩, fun n w s hn => ?_,
    fun w s => ⟨rfl, rfl, rfl⟩⟩
  · show (s.ifc.cause.setWidth 16).getLsbD k = _
    simp only [BitVec.getLsbD_setWidth, hk, decide_true, Bool.true_and]
  · show (s.ifc.enable.setWidth 16).getLsbD k = _
    simp only [BitVec.getLsbD_setWidth, hk, decide_true, Bool.true_and]
  · show Host.Outcome.next (s.regWrite n.toNat w) = _
    have h0 : n.toNat = 0 ∨ 4 ≤ n.toNat := hn.imp_left fun h => by
      rw [h]
      rfl
    unfold State.regWrite
    split
    · next h => omega
    · next h => omega
    · next h => omega
    · rfl

/-- Settles O4: the writes of the two registers bit by bit, and what each register reads as. -/
theorem registersWritten : Obligations.RegistersWritten := by
  unfold Obligations.RegistersWritten
  exact ⟨causeRegisters_holds, registerWindow_holds⟩

end Sys2Proof.Machine
end


section
/-! SUPPORT. Bus writes and reads of exchange memory, area by area (R166, 11.2). -/

namespace Sys2Proof.Machine

/-! ## Bus writes (R166) -/

/-- A write to a word that is not host-written is ignored. -/
theorem State.busWrite_ignored (s : State) {a : Nat} (w : Word) (h : hostWritten a = false) : s.busWrite a w = s :=
  if_neg (by rw [h]; decide)

/-- A write to a host-written word stores it; the blocks and the queue of commands stand. -/
theorem State.busWrite_stored (s : State) {a : Nat} (w : Word) (h : hostWritten a = true) :
    (s.busWrite a w).host = s.host.write a w ∧ (s.busWrite a w).blk = s.blk ∧
      (s.busWrite a w).pending = s.pending := by
  unfold State.busWrite
  rw [if_pos h]
  dsimp only
  split
  · exact ⟨rfl, rfl, rfl⟩
  · exact ⟨rfl, rfl, rfl⟩
  · exact ⟨rfl, rfl, rfl⟩

/-- A write that no examination follows. -/
theorem State.busWrite_plain (s : State) {a : Nat} (w : Word) (h : hostWritten a = true) (hd : drainOf a = none)
    (hh : holdOf a = none) : s.busWrite a w = { s with host := s.host.write a w } := by
  unfold State.busWrite
  rw [if_pos h, hd, hh]

theorem drainOf_none {a : Nat} (h : ∀ q : Fin 4, a ≠ 0x90 + q.val) : drainOf a = none := by
  refine dif_neg fun ha => h ⟨a - 0x90, by omega⟩ ?_
  show a = 0x90 + (a - 0x90)
  omega

theorem holdOf_none {a : Nat} (h : ∀ p : Fin 6, a ≠ 0x81 + 2 * p.val) : holdOf a = none := by
  unfold holdOf
  refine List.find?_eq_none.mpr fun p _ hp => h (pageIdx p) ?_
  exact (beq_iff_eq.mp hp).symm

/-! ## Bus reads (R166) -/

theorem State.busRead_host (s : State) {b : BitVec 14} (h : hostWritten b.toNat = true) :
    s.busRead b = s.host.read b.toNat := if_pos h

/-- A read of a word that is not host-written, by its address. -/
theorem State.busRead_part (s : State) {a : Nat} (ha : a < 16384) (h : hostWritten a = false) :
    s.busRead (BitVec.ofNat 14 a) = partWord s.ifc a := by
  have hn : (BitVec.ofNat 14 a).toNat = a := by
    rw [BitVec.toNat_ofNat]
    omega
  unfold State.busRead
  rw [hn, if_neg (by rw [h]; decide)]

theorem hostWritten_above {a : Nat} (h : 0x1200 ≤ a) : hostWritten a = false := by
  unfold hostWritten
  rw [decide_eq_false (by omega : ¬ a < 0x100), decide_eq_false (by omega : ¬ a < 0x1200), Bool.and_false]
  rfl

/-- The pages (11.5). -/
theorem partWord_page (i : Iface) {k j : Nat} (hk : k < 6) (hj : j < 512) :
    partWord i (0x3200 + 512 * k + j) = (pageWords i.pages[k]).getD j 0 := by
  have hdiv : (0x3200 + 512 * k + j - 0x3200) / 512 = k := by omega
  have hmod : (0x3200 + 512 * k + j - 0x3200) % 512 = j := by omega
  unfold partWord
  rw [if_neg (by omega), if_neg (by omega), if_neg (by omega), dif_pos (by omega)]
  simp only [hdiv, hmod]

/-- Nothing stands above the pages. -/
theorem partWord_abovePages (i : Iface) {a : Nat} (h : 0x3E00 ≤ a) : partWord i a = 0 := by
  unfold partWord
  rw [if_neg (by omega), if_neg (by omega), if_neg (by omega), dif_neg (by omega)]

end Sys2Proof.Machine
end

section
/-! PROOF. Memory writes (R166), and publication of the pages, HOLD and what the host reads of them (R172 to R174). -/

namespace Sys2Proof.Machine

/-- Settles O5: a write stores its word alone, and a read of a host-written word is that of the store. -/
theorem memoryWrite : Obligations.MemoryWrite := by
  unfold Obligations.MemoryWrite
  intro a w s hwf
  refine ⟨s.busWrite a.toNat w, rfl, ?_⟩
  cases ha : hostWritten a.toNat with
  | false =>
    rw [State.busWrite_ignored s w ha]
    refine ⟨rfl, rfl, hwf, fun _ => rfl, fun b hb => ?_, fun _ _ => rfl⟩
    rw [if_neg]
    rintro rfl
    rw [ha] at hb
    cases hb
  | true =>
    obtain ⟨hhost, hblk, hpending⟩ := State.busWrite_stored s w ha
    refine ⟨hblk, hpending, ?_, nofun, fun b hb => ?_, fun hd hh => ?_⟩
    · rw [hhost]
      exact Memory.write_wf _ _ _ hwf
    · rw [State.busRead_host _ hb, State.busRead_host _ hb, hhost, Memory.read_write _ _ _ _ hwf]
      simp only [BitVec.toNat_inj]
    · rw [State.busWrite_plain s w ha (drainOf_none hd) (holdOf_none hh)]

/-! ## HOLD (R173) -/

theorem hostWritten_holdAddr (p : PageId) : hostWritten (holdAddr (pageIdx p).val) = true := by
  cases p
  all_goals decide

theorem drainOf_holdAddr (p : PageId) : drainOf (holdAddr (pageIdx p).val) = none := by
  cases p
  all_goals decide

theorem holdOf_holdAddr (p : PageId) : holdOf (holdAddr (pageIdx p).val) = some p := by
  cases p
  all_goals decide

theorem holdAddr_toNat (p : PageId) :
    (BitVec.ofNat 14 (holdAddr (pageIdx p).val)).toNat = holdAddr (pageIdx p).val := by
  cases p
  all_goals decide

/-- The rows that name a HOLD word are the bus write to it. -/
theorem exec_hold_rows {p : PageId} {w : Word} {c : Instr} (s : State)
    (hc : c ∈ [Instr.holdSet p w, .holdRelease p w, .memoryWrite (BitVec.ofNat 14 (holdAddr (pageIdx p).val)) w]) :
    exec c s = .next (s.busWrite (holdAddr (pageIdx p).val) w) := by
  simp only [List.mem_cons, List.not_mem_nil, or_false] at hc
  obtain rfl | rfl | rfl := hc
  · rfl
  · rfl
  · show Host.Outcome.next (s.busWrite (BitVec.ofNat 14 (holdAddr (pageIdx p).val)).toNat w) = _
    rw [holdAddr_toNat]

theorem State.busWrite_holdAddr (s : State) (p : PageId) (w : Word) :
    s.busWrite (holdAddr (pageIdx p).val) w =
      { s with
        host := s.host.write (holdAddr (pageIdx p).val) w
        ifc := s.ifc.holdWrite s.host (s.host.write (holdAddr (pageIdx p).val) w) p } := by
  unfold State.busWrite
  rw [if_pos (hostWritten_holdAddr p), drainOf_holdAddr, holdOf_holdAddr]

section
variable {h : Memory} (hwf : h.wf = true) (p : PageId) (w : Word)
include hwf

theorem pageHeld_write : pageHeld (h.write (holdAddr (pageIdx p).val) w) p = w.getLsbD 0 := by
  unfold pageHeld
  rw [Memory.read_write _ _ _ _ hwf, if_pos rfl]

theorem pageTaken_write : pageTaken (h.write (holdAddr (pageIdx p).val) w) p = pageTaken h p := by
  unfold pageTaken
  rw [Memory.read_write _ _ _ _ hwf, if_neg]
  unfold takenAddr holdAddr
  omega

theorem pageMasked_write : pageMasked (h.write (holdAddr (pageIdx p).val) w) p = pageMasked h p := by
  unfold pageMasked
  rw [Memory.read_write _ _ _ _ hwf, if_neg]
  have := (pageIdx p).isLt
  unfold pageMaskAddr holdAddr
  omega

end

/-- A write that clears HOLD, for a page with a withheld publication (R173, R174). -/
theorem Iface.releasePage_eq (i : Iface) (h : Memory) (p : PageId) (hd : (i.page p).deferred ≠ 0) :
    i.releasePage h p =
      { i.setPage p { i.page p with
          o := decide (2 ≤ (i.page p).deferred.toNat ∨ pageTaken h p ≠ (i.page p).u)
          body := (i.page p).latest.getD [], u := nextU (i.page p).u, deferred := 0 } with
        cause := if pageMasked h p then i.cause ||| 0b01000 else i.cause } := by
  unfold Iface.releasePage
  dsimp only
  rw [if_neg hd, Iface.pageCause_eq]
  rfl

/-- Any other write to the HOLD word leaves the interface. -/
theorem Iface.holdWrite_idle (i : Iface) {before h : Memory} {p : PageId}
    (hi : pageHeld h p = true ∨ pageHeld before p = false ∨ (i.page p).deferred = 0) :
    i.holdWrite before h p = i := by
  unfold Iface.holdWrite
  split
  · next hc =>
    obtain ⟨hb, hn⟩ := hc
    rcases hi with hi | hi | hi
    · rw [hi] at hn
      cases hn
    · rw [hi] at hb
      cases hb
    · exact if_pos hi
  · rfl

theorem pageHold_holds : Says.PageHold := by
  refine ⟨fun h i p c hh => Iface.publish_held i c hh, fun p w s c hwf hc => ?_⟩
  rw [exec_hold_rows s hc, State.busWrite_holdAddr]
  refine ⟨fun hi => ?_, fun body hw hb hd hl => ?_⟩
  · rw [Iface.holdWrite_idle]
    rw [pageHeld_write hwf]
    exact hi
  · have hact : s.ifc.holdWrite s.host (s.host.write (holdAddr (pageIdx p).val) w) p =
        s.ifc.releasePage (s.host.write (holdAddr (pageIdx p).val) w) p :=
      if_pos ⟨hb, by rw [pageHeld_write hwf, hw]; rfl⟩
    have hgetD : (s.ifc.page p).latest.getD [] = body := by
      rw [hl]
      rfl
    rw [hact, Iface.releasePage_eq _ _ _ hd, pageTaken_write hwf, pageMasked_write hwf, hgetD, nextU_eq]
    dsimp only
    rw [hl]

theorem pagePublication_holds : Says.PagePublication := fun _ i _ c hh => Iface.publish_open i c hh

theorem pageCauseByMask_holds : Says.PageCauseByMask := by
  refine fun h i p c => ⟨fun hh => ?_, fun hd => ?_⟩
  · exact congrArg Iface.cause (Iface.publish_open i c hh)
  · exact congrArg Iface.cause (Iface.releasePage_eq i h p hd)

/-! ## What the host reads of the pages (11.5) -/

theorem pageWords_holds : Says.PageWords := by
  intro s
  refine ⟨fun p => ?_, fun a h1 h2 => ?_⟩
  · have hlt := (pageIdx p).isLt
    have hread : ∀ j < 512, s.busRead (BitVec.ofNat 14 (0x3200 + 512 * (pageIdx p).val + j)) =
        (pageWords (s.ifc.page p)).getD j 0 := fun j hj => by
      rw [State.busRead_part s (by omega) (hostWritten_above (by omega)), partWord_page s.ifc hlt hj]
      rfl
    refine ⟨hread 0 (by omega), hread 1 (by omega), fun j hj => ?_⟩
    show s.busRead (BitVec.ofNat 14 (0x3200 + 512 * (pageIdx p).val + (2 + j))) = _
    rw [hread (2 + j) (by omega), Nat.add_comm 2 j]
    rfl
  · rw [State.busRead_part s h2 (hostWritten_above (by omega))]
    exact partWord_abovePages s.ifc h1

theorem pageCodes_holds : Says.PageCodes := by
  refine ⟨rfl, rfl, rfl, rfl, rfl, rfl, rfl, rfl, rfl, rfl, rfl, rfl, rfl, rfl, rfl, rfl, rfl, rfl, rfl, rfl, rfl,
    fun _ => rfl, rfl, rfl⟩

theorem linkMotionMonitorPages_holds : Says.LinkMotionMonitorPages := fun _ => ⟨rfl, rfl, rfl⟩

/-! ## CONSIST page (R48) -/

theorem packBytes_entryBytes (x : SweepEntry) :
    packBytes (entryBytes x) = [x.id.setWidth 16, (x.id >>> 16).setWidth 16] ++
      [packWord x.towardEnd x.doorsLeft, packWord x.doorsRight x.flags, packWord x.r x.f, packWord x.s 0] := by
  show [packWord (loByte (loHalf x.id)) (hiByte (loHalf x.id)), packWord (loByte (hiHalf x.id)) (hiByte (hiHalf x.id)),
    packWord x.towardEnd x.doorsLeft, packWord x.doorsRight x.flags, packWord x.r x.f, packWord x.s 0] = _
  rw [packWord_bytes, packWord_bytes]
  rfl

theorem padWords_of_length {n : Nat} {ws : List Word} (k : Nat) (h : ws.length + k = n) :
    padWords n ws = ws ++ List.replicate k 0 := by
  unfold padWords
  rw [show n - ws.length = k by omega]

theorem outcomeWords_length (o : SweepOutcome) : (outcomeWords o).length = 2 := by
  cases o
  all_goals rfl

theorem consistFixed_length (c : Consist) : (consistFixed c).length = 21 := by
  unfold consistFixed
  simp only [List.length_append, outcomeWords_length]
  cases c.table
  all_goals
    cases c.carry
    all_goals rfl

theorem consistPage_holds : Says.ConsistPage := by
  intro b c half outcome table carried entry cab attempt
  show padWords 22 (consistFixed c) ++ _ = _
  rw [padWords_of_length 1 (by rw [consistFixed_length])]
  unfold consistFixed
  have hhead : [word (roleNum c.role), word (portOptNum c.cabEnd), word (sweepStateNum c.sweep),
      word (attemptNum c.sweep)] = [word (roleNum c.role), word cab, word (sweepStateNum c.sweep), word attempt] := by
    rw [show portOptNum c.cabEnd = cab by cases hcab : c.cabEnd <;> simp only [cab, hcab, portOptNum]]
    rw [show attemptNum c.sweep = attempt by cases hsweep : c.sweep <;> simp only [attempt, hsweep, attemptNum]]
  refine congrArg₂ (· ++ ·) (congrArg₂ (· ++ ·) (congrArg₂ (· ++ ·) (congrArg₂ (· ++ ·) (congrArg₂ (· ++ ·)
    (congrArg₂ (· ++ ·) hhead ?_) ?_) rfl) ?_) rfl) ?_
  · cases ho : c.outcome <;> simp only [outcome, ho, outcomeWords]
  · cases ht : c.table <;> simp only [table, ht]
    rfl
  · cases hc : c.carry with
    | none => simp only [carried, hc]
    | some k =>
      cases hp : c.pendingTable <;> simp only [carried, hc, hp]
      all_goals rfl
  · cases ht : c.table with
    | none => rfl
    | some t => simp only [packBytes_entryBytes]; rfl

end Sys2Proof.Machine
end


section
/-! PROOF. The DOOR page (R108, R121) and the HEAT page (R136, R151, R161), and the publication of pages as a whole. -/

namespace Sys2Proof.Machine

/-! ## DOOR page -/

theorem doorWords_length (c : Bool) (d : DoorRec) : (doorWords c d).length = 4 := by
  cases c
  · rfl
  · rfl

theorem sideDoorWords_length (r : SideRec) (n : Nat) : (sideDoorWords r n).length = 16 := by
  simp only [sideDoorWords, List.length_append, doorWords_length]

/-- The four words of one door, as the statements write them. -/
theorem doorWords_eq (n k : Nat) (d : DoorRec) :
    doorWords (decide (k < n)) d =
      if k < n then [word (doorStateNum d.state), if d.contact then 0 else 1, d.timer, d.lastClose] else [7, 0, 0, 0] := by
  unfold doorWords
  by_cases h : k < n
  · rw [if_pos h, if_pos (decide_eq_true h)]
    cases d.contact
    · rfl
    · rfl
  · rw [if_neg h, decide_eq_false h]
    rfl

theorem flagWord_isLead (b : Blocks) : flagWord b.isLead = if b.consist.role = .lead then 1 else 0 := by
  unfold flagWord Blocks.isLead
  simp only [beq_iff_eq]

theorem carsShown_eq (b : Blocks) :
    (if b.isLead then word b.cars else 0) = if b.consist.role = .lead then word b.cars else 0 := by
  unfold Blocks.isLead
  simp only [beq_iff_eq]

theorem trainSides_eq (b : Blocks) :
    [word (b.trainSide .left), word (b.trainSide .right)] =
      match b.consist.table with
      | none => [0, 0]
      | some t => if t.toward = .p1 then [1, 2] else [2, 1] := by
  unfold Blocks.trainSide Blocks.orientation
  cases b.consist.table with
  | none => rfl
  | some t =>
    dsimp only
    cases t.toward
    · rfl
    · rfl

theorem doorPage_holds : Says.DoorPage := by
  intro b f side door doors trainSides lead j t
  have hside : ∀ r n, sideDoorWords r n = doors r n := fun r n => by
    unfold sideDoorWords
    rw [doorWords_eq, doorWords_eq, doorWords_eq, doorWords_eq]
    rfl
  have htrain : [word (b.trainSide .left), word (b.trainSide .right)] = trainSides := trainSides_eq b
  show padWords 48 _ ++ summaryWords b = _
  rw [padWords_of_length 4
    (by simp only [List.length_append, sideDoorWords_length, sideWords, List.length_cons, List.length_nil])]
  unfold summaryWords
  dsimp only
  rw [flagWord_isLead, carsShown_eq, hside, hside, htrain]
  simp only [List.append_assoc]
  rfl

/-! ## HEAT page -/

theorem flagWord_not (b : Bool) : flagWord (!b) = if b then 0 else 1 := by
  cases b
  · rfl
  · rfl

theorem Alloc.grantedLoad_eq (a : Alloc) :
    a.grantedLoad = (((a.table.getD []).zip (a.grants.getD [])).map fun x => x.2.g * x.1.r).sum / 256 := by
  unfold Alloc.grantedLoad
  cases a.table with
  | none => exact (Nat.zero_div 256).symm
  | some es =>
    cases a.grants with
    | none => simp only [Option.getD_some, Option.getD_none, List.zip_nil_right, List.map_nil, List.sum_nil, Nat.zero_div]
    | some gs => rfl

theorem Alloc.measuredDraw_eq (a : Alloc) :
    a.measuredDraw = (((a.table.getD []).filter fun x => x.demanded).map fun x => x.draw).sum := by
  unfold Alloc.measuredDraw
  cases a.table
  · rfl
  · rfl

theorem allocEntryWords_length (x : DemandEntry) (g : Option GrantLine) : (allocEntryWords x g).length = 12 := by
  cases g
  · rfl
  · rfl

/-- The table's rows, with the figures of the grant of the same place. -/
theorem allocTableWords_cons (x : DemandEntry) (xs : List DemandEntry) (gs : List GrantLine) :
    allocTableWords (x :: xs) gs = allocEntryWords x gs[0]? ++ allocTableWords xs gs.tail := by
  cases gs
  · rfl
  · rfl

theorem allocTableWords_length (es : List DemandEntry) (gs : List GrantLine) :
    (allocTableWords es gs).length = 12 * es.length := by
  induction es generalizing gs with
  | nil => rfl
  | cons x xs ih =>
    rw [allocTableWords_cons, List.length_append, allocEntryWords_length, ih, List.length_cons]
    omega

theorem allocTableWords_row (es : List DemandEntry) (gs : List GrantLine) {i : Nat} {x : DemandEntry}
    (h : es[i]? = some x) : ((allocTableWords es gs).drop (12 * i)).take 12 = allocEntryWords x gs[i]? := by
  induction es generalizing gs i with
  | nil => cases h
  | cons y ys ih =>
    rw [allocTableWords_cons]
    cases i with
    | zero =>
      obtain rfl : y = x := Option.some.inj h
      exact List.take_left' (allocEntryWords_length y _)
    | succ i =>
      have hdrop : 12 * (i + 1) = (allocEntryWords y gs[0]?).length + 12 * i := by
        rw [allocEntryWords_length]
        omega
      rw [hdrop, List.drop_append, List.drop_eq_nil_of_le (by omega), List.nil_append, Nat.add_sub_cancel_left,
        ih gs.tail h, List.getElem?_tail]

theorem heatPage_holds : Says.HeatPage := by
  intro b half v d h a chan own budget es gs granted measured
  have hown : measurementWords b ++ heaterWords b.heater = own := by
    unfold measurementWords heaterWords
    rw [flagWord_not]
    simp only [List.append_assoc]
    rfl
  have hbody : pageBody .heat b = padWords 62 own ++ allocWords b := by rw [← hown]; rfl
  refine ⟨fun hlead => ?_, fun hlead => ⟨allocTableWords es gs, ?_, allocTableWords_length es gs, fun i x hx => ?_⟩⟩
  · rw [hbody, List.append_assoc]
    have hoff : b.isLead = false := by
      unfold Blocks.isLead
      exact beq_eq_false_iff_ne.mpr hlead
    unfold allocWords
    rw [hoff]
    rfl
  · have hon : b.isLead = true := by
      unfold Blocks.isLead
      exact beq_iff_eq.mpr hlead
    have hrows : (match b.alloc.table with | some es => allocTableWords es (b.alloc.grants.getD []) | none => []) =
        allocTableWords es gs := by
      show _ = allocTableWords (b.alloc.table.getD []) (b.alloc.grants.getD [])
      cases b.alloc.table
      · rfl
      · rfl
    rw [hbody, List.append_assoc, ← hrows]
    unfold allocWords
    dsimp only
    rw [hon, Alloc.grantedLoad_eq, Alloc.measuredDraw_eq]
    rfl
  · have hflag : flagWord (decide (x.r ≠ 0)) = if x.r = 0 then 0 else 1 := by
      rw [decide_not, flagWord_not]
      simp only [decide_eq_true_eq]
    rw [allocTableWords_row es gs hx, ← hflag]
    rfl

/-- Settles O7: the publications by the rules of the page record, the bodies page by page. -/
theorem pages : Obligations.Pages := by
  unfold Obligations.Pages
  exact ⟨pageHold_holds, pagePublication_holds, pageCauseByMask_holds, pageWords_holds, pageCodes_holds,
    linkMotionMonitorPages_holds, consistPage_holds, doorPage_holds, heatPage_holds⟩

end Sys2Proof.Machine
end


section
/-! PROOF. Delivery of items (R175, R177, R184) and what the host reads of the delivery queues. -/

namespace Sys2Proof.Machine

/-! ## An item at the delivery map (R175, R177) -/

theorem noticeMapAddr_eq (k : Notice) : noticeMapAddr (byte (noticeNum k)) = 0xC0 + noticeNum k := by
  cases k
  all_goals rfl

theorem Iface.offerItem_off (i : Iface) {w : Word} (x : Entry) (h : i.deliver = false ∨ 4 ≤ w.toNat) :
    i.offerItem w x = i := by
  unfold Iface.offerItem
  split
  · next hd =>
    rcases h with h | h
    · rw [h] at hd
      cases hd
    · rw [show mapQueue w = none from dif_neg (by omega)]
  · rfl

theorem Iface.offerItem_on (i : Iface) {w : Word} (x : Entry) {k : Fin 4} (hd : i.deliver = true)
    (hw : w.toNat = k.val) : i.offerItem w x = i.deliverTo k x := by
  unfold Iface.offerItem
  rw [if_pos hd, show mapQueue w = some k from (dif_pos (by omega)).trans (congrArg some (Fin.ext hw))]

theorem DQueue.occupancy_eq_zero (q : DQueue) : q.occupancy = 0 ↔ q.fill = q.validDrain := by
  have h : ∀ a b : BitVec 4, (a - b).toNat = 0 ↔ a = b := by decide
  exact h q.fill q.validDrain

theorem Iface.deliverTo_room (i : Iface) {k : Fin 4} (x : Entry) (h : (i.queues.get k).occupancy < 8) :
    i.deliverTo k x = { i with
      queues := i.queues.set k ((i.queues.get k).push x)
      cause := if (i.queues.get k).fill = (i.queues.get k).validDrain then i.cause ||| 0b00010 else i.cause } := by
  unfold Iface.deliverTo
  dsimp only
  rw [if_pos h]
  by_cases h0 : (i.queues.get k).fill = (i.queues.get k).validDrain
  · rw [if_pos ((DQueue.occupancy_eq_zero _).mpr h0), if_pos h0]
    rfl
  · rw [if_neg fun hz => h0 ((DQueue.occupancy_eq_zero _).mp hz), if_neg h0]

theorem Iface.deliverTo_full (i : Iface) {k : Fin 4} (x : Entry) (h : (i.queues.get k).occupancy = 8) :
    i.deliverTo k x = { i with
      queues := i.queues.set k { i.queues.get k with lost := satInc (i.queues.get k).lost }
      cause := i.cause ||| 0b00100 } := by
  unfold Iface.deliverTo
  dsimp only
  rw [if_neg (by omega)]
  rfl

theorem itemDelivered_holds : Says.ItemDelivered := by
  intro h i x m e hx
  have happly : i.apply h x = i.offerItem m e := by
    rcases hx with ⟨k, tick, d1, d2, rfl, rfl, rfl⟩ | ⟨port, tick, t, rfl, rfl, rfl⟩
    · show i.offerItem (h.read (noticeMapAddr (byte (noticeNum k)))) _ = _
      rw [noticeMapAddr_eq]
    · rfl
  rw [happly]
  refine ⟨fun hoff => Iface.offerItem_off i e hoff, fun k hd hm => ?_⟩
  rw [Iface.offerItem_on i e hd hm]
  refine ⟨fun hroom => Iface.deliverTo_room i e hroom, fun hfull => ?_⟩
  rw [Iface.deliverTo_full i e hfull, satInc_eq]

/-! ## What the host reads of the queues (11.2, R184) -/

theorem hostWritten_status {a : Nat} (h1 : 0x100 ≤ a) (h2 : a < 0x200) : hostWritten a = false := by
  unfold hostWritten
  rw [decide_eq_false (by omega : ¬ a < 0x100), decide_eq_false (by omega : ¬ 0x200 ≤ a)]
  rfl

theorem partWord_status (i : Iface) (k : Nat) (h : 0x100 + k < 0x200) :
    partWord i (0x100 + k) = (statusWords i).getD k 0 := by
  unfold partWord
  rw [if_pos h, Nat.add_sub_cancel_left]

/-- An entry of a delivery queue. -/
theorem partWord_entry (i : Iface) (q : Fin 4) (n : Fin 8) {j : Nat} (hj : j < 256) :
    partWord i (0x1200 + 2048 * q.val + 256 * n.val + j) = (entryWords (i.queues.get q).entries[n]).getD j 0 := by
  have hq := q.isLt
  have hn := n.isLt
  have hk : (0x1200 + 2048 * q.val + 256 * n.val + j - 0x1200) / 256 = 8 * q.val + n.val := by omega
  have hm : (0x1200 + 2048 * q.val + 256 * n.val + j - 0x1200) % 256 = j := by omega
  have hqueue : (⟨(8 * q.val + n.val) / 8 % 4, Nat.mod_lt _ (by decide)⟩ : Fin 4) = q := Fin.ext (by dsimp only; omega)
  have hentry : (⟨(8 * q.val + n.val) % 8, Nat.mod_lt _ (by decide)⟩ : Fin 8) = n := Fin.ext (by dsimp only; omega)
  unfold partWord
  rw [if_neg (by omega), if_neg (by omega), if_pos (by omega), hk, hm]
  unfold queueWord
  dsimp only
  simp only [hqueue, hentry]

theorem packBytes_getD (bs : List Byte) (j : Nat) :
    (packBytes bs).getD j 0 = packWord (bs.getD (2 * j) 0) (bs.getD (2 * j + 1) 0) := by
  induction bs using packBytes.induct generalizing j with
  | case1 =>
    simp only [packBytes, List.getD_nil]
    decide
  | case2 b =>
    cases j with
    | zero => rfl
    | succ j =>
      rw [List.getD_eq_default [b] 0 (by show 1 ≤ _; omega), List.getD_eq_default [b] 0 (by show 1 ≤ _; omega),
        List.getD_eq_default (packBytes [b]) 0 (by show 1 ≤ _; omega)]
      decide
  | case3 b c bs ih =>
    cases j with
    | zero => rfl
    | succ j => exact ih j

theorem packBytes_headerBytes (h : Header) :
    packBytes (headerBytes h) = [packWord h.kind h.classMode, packWord h.hops h.gen, packWord h.srcPos h.dstLo,
      packWord h.dstHi h.flags, h.seq, h.plen, h.srcId.setWidth 16, (h.srcId >>> 16).setWidth 16] := by
  show [_, _, _, _, packWord (loByte h.seq) (hiByte h.seq), packWord (loByte h.plen) (hiByte h.plen),
    packWord (loByte (loHalf h.srcId)) (hiByte (loHalf h.srcId)),
    packWord (loByte (hiHalf h.srcId)) (hiByte (hiHalf h.srcId))] = _
  simp only [packWord_bytes]
  rfl

theorem entryWords_telegram (port : Nat) (tick : Word) (t : Telegram) :
    entryWords (.telegram port tick t) = [word (0x1000 + port), tick] ++
      [packWord t.hdr.kind t.hdr.classMode, packWord t.hdr.hops t.hdr.gen, packWord t.hdr.srcPos t.hdr.dstLo,
        packWord t.hdr.dstHi t.hdr.flags, t.hdr.seq, t.hdr.plen, t.hdr.srcId.setWidth 16,
        (t.hdr.srcId >>> 16).setWidth 16] ++ packBytes t.payload := by
  rw [← packBytes_headerBytes]
  rfl

theorem statusWords_fill (i : Iface) (q : Fin 4) :
    (statusWords i).getD q.val 0 = (i.queues.get q).fill.setWidth 16 := by
  match q with
  | 0 | 1 | 2 | 3 => rfl

theorem statusWords_lost (i : Iface) (q : Fin 4) : (statusWords i).getD (4 + q.val) 0 = (i.queues.get q).lost := by
  match q with
  | 0 | 1 | 2 | 3 => rfl

theorem deliveryWords_holds : Says.DeliveryWords := by
  intro s q x
  have hq := q.isLt
  have hstatus : ∀ k, 0x100 + k < 0x200 → s.busRead (BitVec.ofNat 14 (0x100 + k)) = (statusWords s.ifc).getD k 0 :=
    fun k hk => by
      rw [State.busRead_part s (by omega) (hostWritten_status (by omega) hk), partWord_status s.ifc k hk]
  refine ⟨?_, ?_, fun a h1 h2 => ?_, fun n => ?_⟩
  · rw [hstatus q.val (by omega), statusWords_fill]
  · have hlost := hstatus (4 + q.val) (by omega)
    rw [← Nat.add_assoc, statusWords_lost] at hlost
    exact hlost
  · obtain ⟨k, rfl⟩ := Nat.exists_eq_add_of_le (show 0x100 ≤ a by omega)
    rw [hstatus k h2]
    exact List.getD_eq_default _ _ (by show 8 ≤ k; omega)
  · have hn := n.isLt
    have hread : ∀ j < 256, s.busRead (BitVec.ofNat 14 (0x1200 + 2048 * q.val + 256 * n.val + j)) =
        (entryWords x.entries[n]).getD j 0 := fun j hj => by
      rw [State.busRead_part s (by omega) (hostWritten_above (by omega)), partWord_entry s.ifc q n hj]
    refine ⟨fun hx j hj => ?_, fun code tick d1 d2 hx => ?_, fun port tick t hx => ?_⟩
    · refine (hread j hj).trans ?_
      rw [hx]
      rfl
    · refine ⟨?_, ?_, ?_, ?_, fun j hj h4 => ?_⟩
      · refine (hread 0 (by omega)).trans ?_
        rw [hx]
        rfl
      · refine (hread 1 (by omega)).trans ?_
        rw [hx]
        rfl
      · refine (hread 2 (by omega)).trans ?_
        rw [hx]
        rfl
      · refine (hread 3 (by omega)).trans ?_
        rw [hx]
        rfl
      · refine (hread j hj).trans ?_
        rw [hx]
        exact List.getD_eq_default _ _ h4
    · have hwords : ∀ j, (entryWords (.telegram port tick t)).getD (10 + j) 0 = (packBytes t.payload).getD j 0 :=
        fun j => by
          rw [entryWords_telegram, Nat.add_comm 10 j]
          rfl
      refine ⟨?_, ?_, fun j hj => ?_, fun j hj => ?_⟩
      · refine (hread 0 (by omega)).trans ?_
        rw [hx]
        rfl
      · refine (hread 1 (by omega)).trans ?_
        rw [hx]
        rfl
      · refine (hread (2 + j) (by omega)).trans ?_
        rw [hx]
        rw [entryWords_telegram]
        interval_cases j
        all_goals rfl
      · refine (hread (10 + j) (by omega)).trans ?_
        rw [hx, hwords, packBytes_getD]

/-- Settles O8: the two cases of a queue with and without room, and the reads area by area. -/
theorem delivery : Obligations.Delivery := by
  unfold Obligations.Delivery
  exact ⟨itemDelivered_holds, deliveryWords_holds⟩

end Sys2Proof.Machine
end

section
/-! PROOF. Command slots: the posting and the scanner's visits (R167, R168), taking and reply (R169, R170). -/

namespace Sys2Proof.Machine

/-! ## The row's post (R167, 11.3) -/

/-- Every slot command row is the command of its slot, and its kind code is one of R169. -/
theorem exec_slotRow {c : Instr} {n : Fin 16} {tag : Byte} {kind : Nat} {body : List Byte}
    (h : slotRow c = some (n, tag, kind, body)) (s : State) :
    exec c s = .next (s.command n tag kind body) ∧ kind < 16 := by
  cases c with
  | adoptProfile | setCab | startSweep | send | door | heatSet | budget | monitor | restoreLink =>
    cases h
    exact ⟨rfl, by decide⟩
  | _ => cases h

theorem State.takeSlot_kept (s : State) (n : Fin 16) (tag : Byte) (kind len : Nat) (body : List Byte) :
    (s.takeSlot n tag kind len body).host = s.host ∧ (s.takeSlot n tag kind len body).pending = s.pending := by
  unfold State.takeSlot
  split
  · exact ⟨rfl, rfl⟩
  · exact ⟨rfl, rfl⟩

theorem State.command_kept_words (s : State) (n : Fin 16) (tag : Byte) (kind : Nat) (body : List Byte) :
    (s.command n tag kind body).host = (s.post n { req := .posted, kind := kind, tag := tag } body).host ∧
      (s.command n tag kind body).pending = s.pending := by
  unfold State.command State.visit
  dsimp only
  split
  · split
    · exact State.takeSlot_kept _ n tag kind _ body
    · exact ⟨rfl, rfl⟩
  · exact ⟨rfl, rfl⟩

theorem packBytes_length (bs : List Byte) : (packBytes bs).length = (bs.length + 1) / 2 := by
  induction bs using packBytes.induct with
  | case1 => rfl
  | case2 b => simp only [packBytes, List.length_cons, List.length_nil]
  | case3 b c bs ih =>
    simp only [packBytes, List.length_cons, ih]
    omega

/-- What the post leaves at an address: the request word, the length, the body, and every other word as it was. -/
theorem State.read_post (s : State) (n : Fin 16) (r : Request) (body : List Byte) (hwf : s.host.wf = true) (a : Nat) :
    (s.post n r body).host.read a =
      if a = slotAddr n 0 then requestWord r.req r.kind r.tag
      else if a = slotAddr n 1 then word body.length
      else if slotAddr n 16 ≤ a ∧ a < slotAddr n 16 + (packBytes (body.take Config.maxBody)).length then
        (packBytes (body.take Config.maxBody)).getD (a - slotAddr n 16) 0
      else s.host.read a := by
  have h1 := Memory.writeWords_wf (packBytes (body.take Config.maxBody)) s.host (slotAddr n 16) hwf
  unfold State.post
  dsimp only
  rw [Memory.read_write _ _ _ _ (Memory.write_wf _ _ _ h1), Memory.read_write _ _ _ _ h1,
    Memory.read_writeWords _ _ _ _ hwf]

theorem packBytes_take_length (body : List Byte) : (packBytes (body.take Config.maxBody)).length ≤ 240 := by
  rw [packBytes_length, List.length_take]
  have : Config.maxBody = 480 := rfl
  omega

theorem slotRowPosts_holds : Says.SlotRowPosts := by
  intro c n tag kind body s hrow hwf
  obtain ⟨hexec, hkind⟩ := exec_slotRow hrow s
  obtain ⟨hhost, hpending⟩ := State.command_kept_words s n tag kind body
  have hlen := packBytes_take_length body
  refine ⟨s.command n tag kind body, hexec, hpending, ?_⟩
  rw [hhost]
  have hread := State.read_post s n { req := .posted, kind := kind, tag := tag } body hwf
  refine ⟨?_, ?_, fun a ha => ?_, ?_, ?_, fun j hj => ?_, fun hready => ?_⟩
  · rw [hread, if_pos rfl]
    refine congrArg word ?_
    show 1 * 4096 + kind % 16 * 256 + tag.toNat = _
    omega
  · rw [hread, if_neg (by unfold slotAddr; omega), if_pos rfl]
  · rw [hread, if_neg (ha 0 (by omega)), if_neg (ha 1 (by omega)), if_neg]
    rintro ⟨hlo, hhi⟩
    refine ha (a - slotAddr n 0) ?_ ?_
    · unfold slotAddr at hlo hhi ⊢
      omega
    · unfold slotAddr at hlo hhi ⊢
      omega
  · rw [hread, if_neg (by unfold slotAddr; omega), if_neg (by unfold slotAddr; omega), if_neg]
    unfold slotAddr
    omega
  · rw [hread, if_neg (by unfold slotAddr; omega), if_neg (by unfold slotAddr; omega), if_neg]
    unfold slotAddr
    omega
  · have hsub : slotAddr n (16 + j) - slotAddr n 16 = j := by
      unfold slotAddr
      omega
    rw [hread, if_neg (by unfold slotAddr; omega), if_neg (by unfold slotAddr; omega), hsub]
    by_cases hjl : j < (packBytes (body.take Config.maxBody)).length
    · rw [if_pos (by unfold slotAddr; omega), List.getD_eq_getElem _ _ hjl]
      exact (List.getD_eq_getElem _ _ hjl).symm
    · rw [if_neg (by unfold slotAddr; omega)]
      exact (List.getD_eq_default _ _ (Nat.le_of_not_lt hjl)).symm
  · rw [State.command_waits s n tag kind body hready]
    exact ⟨rfl, rfl⟩

/-! ## The scanner (R168) -/

theorem Slot.finished_iff (x : Slot) :
    x.finished = true ↔ x.state = .done ∨ x.state = .refused ∨ x.state = .abandoned := by
  unfold Slot.finished
  simp only [Bool.or_eq_true, beq_iff_eq, or_assoc]

theorem passOrder_eq (k : Fin 16) : passOrder k = (List.range 16).map fun j => k + Fin.ofNat 16 j := by
  revert k
  decide

theorem scannerVisit_holds : Says.ScannerVisit := by
  refine ⟨fun s n r len body => ⟨fun hr => ?_, fun hr => ?_, fun hr => ?_⟩, fun s => ⟨fun hs => ?_, fun hs => ?_⟩⟩
  · unfold State.visit
    rw [hr]
    simp only [Slot.finished_iff]
  · unfold State.visit
    rw [hr]
  · unfold State.visit
    rw [hr]
  · exact congrArg Host.Outcome.next (if_neg (by rw [hs]; decide))
  · refine congrArg Host.Outcome.next ((if_pos hs).trans ?_)
    rw [passOrder_eq, List.foldl_map]

/-- Settles O9: the row's words, and the visit by the request it finds. -/
theorem slotPosting : Obligations.SlotPosting := by
  unfold Obligations.SlotPosting
  exact ⟨slotRowPosts_holds, scannerVisit_holds⟩

/-! ## Taking and reply (R169, R170) -/

theorem parseCmd_badKind {kind : Nat} (len : Nat) (body : List Byte) (h : kind = 0 ∨ 10 ≤ kind) :
    parseCmd kind len body = .error .badKind := if_pos h

/-- A body above 480 bytes, or shorter than the fixed part of its kind. -/
theorem parseCmd_badLength {kind len : Nat} {body : List Byte} (h1 : 1 ≤ kind) (h9 : kind ≤ 9)
    (h : 480 < len ∨ (body.take len).length < [0, 0, 1, 0, 7, 7, 4, 4, 3, 1].getD kind 0) :
    parseCmd kind len body = .error .badField := by
  unfold parseCmd
  rw [if_neg (by omega)]
  split
  · rfl
  · next hlen =>
    have hshort := h.resolve_left hlen
    split
    case h_1 => exact absurd hshort (Nat.not_lt_zero _)
    case h_3 => exact absurd hshort (Nat.not_lt_zero _)
    case h_10 => rfl
    all_goals
      next heq =>
      simp only [heq, List.length_cons, List.getD_cons_succ, List.getD_cons_zero] at hshort
      omega

theorem State.takeSlot_refused (s : State) (n : Fin 16) (tag : Byte) {kind len : Nat} {body : List Byte}
    {r : ResultCode} (h : parseCmd kind len body = .error r) :
    s.takeSlot n tag kind len body = { s with ifc := (s.ifc.openSlot n tag).reply n (.no r) } := by
  unfold State.takeSlot
  rw [h]

theorem Iface.setSlot_setSlot (i : Iface) (n : Fin 16) (x y : Slot) :
    (i.setSlot n x).setSlot n y = i.setSlot n y := by
  unfold Iface.setSlot
  rw [Vector.set_set]

theorem Iface.openSlot_slot (i : Iface) (n : Fin 16) (tag : Byte) :
    (i.openSlot n tag).slot n = { i.slot n with tagEcho := tag, result := 0, d1 := 0, d2 := 0, d3 := 0 } := by
  unfold Iface.openSlot
  rw [Iface.slot_setSlot, if_pos rfl]

/-- The opened slot with any record in it. -/
theorem Iface.openSlot_setSlot (i : Iface) (n : Fin 16) (tag : Byte) (x : Slot) :
    (i.openSlot n tag).setSlot n x = { i.setSlot n x with scanNext := n + 1 } := by
  unfold Iface.openSlot
  rw [Iface.setSlot_setSlot]
  rfl

theorem slotTake_holds : Says.SlotTake := by
  refine ⟨fun s n tag kind len body => ⟨fun hk => ?_, fun h1 h9 h => ?_⟩, fun i n tag =>
    ⟨fun d1 d2 d3 => ?_, fun code d1 d2 => ?_, fun op d1 => ?_⟩⟩
  · exact State.takeSlot_refused s n tag (parseCmd_badKind len body hk)
  · exact State.takeSlot_refused s n tag (parseCmd_badLength h1 h9 h)
  · unfold Iface.reply Iface.finishSlot
    dsimp only
    rw [Iface.openSlot_slot, Iface.openSlot_setSlot]
    rfl
  · unfold Iface.reply Iface.finishSlot
    dsimp only
    rw [Iface.openSlot_slot, Iface.openSlot_setSlot]
    rfl
  · unfold Iface.reply
    dsimp only
    rw [Iface.openSlot_slot, Iface.openSlot_setSlot]

/-! ## What the host reads of a slot (11.3) -/

theorem hostWritten_reply (n : Fin 16) {j : Nat} (h4 : 4 ≤ j) (hj : j < 16) : hostWritten (0x200 + 256 * n.val + j) = false := by
  have hn := n.isLt
  have hmod : (0x200 + 256 * n.val + j - 0x200) % 256 = j := by omega
  unfold hostWritten
  rw [hmod, decide_eq_false (by omega : ¬ 0x200 + 256 * n.val + j < 0x100), decide_eq_false (by omega : ¬ j < 4),
    decide_eq_false (by omega : ¬ 16 ≤ j), Bool.or_false, Bool.and_false, Bool.or_false]

theorem partWord_reply (i : Iface) (n : Fin 16) {j : Nat} (h4 : 4 ≤ j) (hj : j < 16) :
    partWord i (0x200 + 256 * n.val + j) = (slotWords (i.slot n)).getD (j - 4) 0 := by
  have hn := n.isLt
  have hmod : (0x200 + 256 * n.val + j - 0x200) % 256 = j := by omega
  have hslot : (⟨(0x200 + 256 * n.val + j - 0x200) / 256 % 16, Nat.mod_lt _ (by decide)⟩ : Fin 16) = n :=
    Fin.ext (by dsimp only; omega)
  unfold partWord
  rw [if_neg (by omega), if_pos (by omega), hmod]
  simp only [hslot]

theorem slotWords_holds : Says.SlotWords := by
  intro s n x at' code
  have hn := n.isLt
  have hread : ∀ j, 4 ≤ j → j < 16 → at' j = (slotWords x).getD (j - 4) 0 := fun j h4 hj => by
    refine (State.busRead_part s (by omega) (hostWritten_reply n h4 hj)).trans ?_
    exact partWord_reply s.ifc n h4 hj
  have hcode : slotStateNum x.state = code ∧ code < 256 := by
    cases hx : x.state
    all_goals
      simp only [code, hx, slotStateNum]
      decide
  refine ⟨?_, hread 5 (by omega) (by omega), hread 6 (by omega) (by omega), hread 7 (by omega) (by omega),
    hread 8 (by omega) (by omega), fun j hj h9 => ?_⟩
  · refine (hread 4 (by omega) (by omega)).trans ?_
    show hiLo (slotStateNum x.state) x.tagEcho.toNat = _
    have htag := x.tagEcho.isLt
    rw [hcode.1]
    unfold hiLo word
    congr 1
    omega
  · refine (hread j (by omega) hj).trans ?_
    exact List.getD_eq_default _ _ (by show 5 ≤ j - 4; omega)

/-- Settles O10: the checks of R169, the record each reply leaves, and the reads. -/
theorem slotReply : Obligations.SlotReply := by
  unfold Obligations.SlotReply
  exact ⟨slotTake_holds, fun _ _ _ _ _ _ => rfl, slotWords_holds⟩

end Sys2Proof.Machine
end


section
/-! PROOF. The SEND command: its refusals (R69 rows 1 to 6, R169), and a SEND that is originated (R69 rows 7 and 8, R70, R71). -/

namespace Sys2Proof.Machine

/-! ## What the body parses to (11.3) -/

theorem parseCmd_send (cls mode lo hi flags : Byte) (plen : Word) (payload : List Byte) (h : 7 + payload.length ≤ 480) :
    parseCmd 4 ([cls, mode, lo, hi, flags] ++ wordBytes plen ++ payload).length
      ([cls, mode, lo, hi, flags] ++ wordBytes plen ++ payload) =
      .ok (.send cls mode lo hi flags plen.toNat payload) := by
  unfold parseCmd
  rw [if_neg (by decide), if_neg (by
    rw [show ([cls, mode, lo, hi, flags] ++ wordBytes plen ++ payload).length = payload.length + 7 from rfl,
      show Config.maxBody = 480 from rfl]
    omega), List.take_length]
  show Except.ok (SlotCmd.send cls mode lo hi flags (packWord (loByte plen) (hiByte plen)).toNat payload) = _
  rw [packWord_bytes]

theorem clsOf_none {n : Nat} (h : 3 < n) : clsOf n = none := by
  cases hc : clsOf n with
  | none => rfl
  | some c =>
    have hn := (clsOf_iff n c).mp hc
    have := (clsIdx c).isLt
    omega

theorem modeNum_le (m : Mode) : modeNum m ≤ 4 := by cases m <;> decide

theorem modeOf_none {n : Nat} (h : 4 < n) : modeOf n = none := by
  cases hm : modeOf n with
  | none => rfl
  | some m =>
    have hn := (modeOf_iff n m).mp hm
    have := modeNum_le m
    omega

theorem clsOf_some {n : Nat} (h : n ≤ 3) : ∃ c, clsOf n = some c ∧ (clsIdx c).val = n := by
  match n, h with
  | 0, _ => exact ⟨.safety, rfl, rfl⟩
  | 1, _ => exact ⟨.control, rfl, rfl⟩
  | 2, _ => exact ⟨.power, rfl, rfl⟩
  | 3, _ => exact ⟨.service, rfl, rfl⟩

theorem modeOf_some {n : Nat} (h : n ≤ 4) : ∃ m, modeOf n = some m ∧ modeNum m = n := by
  match n, h with
  | 0, _ => exact ⟨.neighbour, rfl, rfl⟩
  | 1, _ => exact ⟨.position, rfl, rfl⟩
  | 2, _ => exact ⟨.range, rfl, rfl⟩
  | 3, _ => exact ⟨.all, rfl, rfl⟩
  | 4, _ => exact ⟨.lead, rfl, rfl⟩

/-! ## The rows of R69, in their order -/

theorem Ev.sendCommand_badCode (e : Ev) (n : Fin 16) {cls mode : Byte} (lo hi flags : Byte) (plen : Nat)
    (rest : List Byte) (h : 3 < cls.toNat ∨ 4 < mode.toNat) :
    e.sendCommand n cls mode lo hi flags plen rest = (e, .no .badField) := by
  unfold Ev.sendCommand
  rcases h with h | h
  · rw [clsOf_none h]
  · rw [modeOf_none h]
    cases clsOf cls.toNat with
    | none => rfl
    | some c => rfl

/-- The checks of a SEND whose class and mode are codes. -/
theorem Ev.sendCommand_coded (e : Ev) (n : Fin 16) {cls mode : Byte} {c : Cls} {m : Mode} (lo hi flags : Byte)
    (plen : Nat) (rest : List Byte) (hc : (clsIdx c).val = cls.toNat) (hm : modeNum m = mode.toNat) :
    e.sendCommand n cls mode lo hi flags plen rest =
      if c = .safety ∨ c = .power then (e, .no .badClass)
      else if Config.maxPayload < plen ∨ rest.length < plen then (e, .no .badLength)
      else if badDest m lo.toNat hi.toNat then (e, .no .badField)
      else e.trySend n lo hi (e.toBlocks.dataOutgoing c m lo hi flags (rest.take plen)) := by
  unfold Ev.sendCommand
  rw [(clsOf_iff _ c).mpr hc, (modeOf_iff _ m).mpr hm]

theorem cls_sendable (c : Cls) : ¬ (c = .safety ∨ c = .power) ↔ c = .control ∨ c = .service := by cases c <;> decide

theorem badPosition_iff (d : Nat) : badPosition d = true ↔ d < 1 ∨ 32 < d := by
  unfold badPosition
  rw [Bool.or_eq_true, decide_eq_true_iff, decide_eq_true_iff]

/-- Row 4 of R69 in the codes of the modes. -/
theorem badDest_iff (m : Mode) (lo hi : Nat) :
    badDest m lo hi = true ↔
      (modeNum m = 0 ∧ lo ≠ 1 ∧ lo ≠ 2) ∨ (modeNum m = 1 ∧ ((lo < 1 ∨ 32 < lo) ∨ (hi < 1 ∨ 32 < hi))) ∨
      (modeNum m = 2 ∧ ((lo < 1 ∨ 32 < lo) ∨ (hi < 1 ∨ 32 < hi) ∨ hi < lo)) := by
  cases m with
  | neighbour => simp [badDest, modeNum]
  | position => simp [badDest, modeNum, badPosition_iff]
  | range => simp [badDest, modeNum, badPosition_iff, or_assoc]
  | all => simp [badDest, modeNum]
  | lead => simp [badDest, modeNum]

/-- Row 6 of R69 in the codes of the modes, for a destination that passed row 4. -/
theorem Blocks.unreachable_of {b : Blocks} {m : Mode} {lo hi : Nat}
    (h : (modeNum m = 0 ∧ ((lo = 1 ∧ b.isUp .p1 = false) ∨ (lo = 2 ∧ b.isUp .p2 = false))) ∨
      ((modeNum m = 1 ∨ modeNum m = 2) ∧ (b.cars < lo ∨ b.cars < hi))) : b.unreachable m lo hi = true := by
  rcases h with ⟨hm, h⟩ | ⟨hm, h⟩
  · obtain rfl : m = .neighbour := by
      cases m
      · rfl
      all_goals exact absurd hm (by decide)
    unfold Blocks.unreachable
    rcases h with ⟨rfl, h⟩ | ⟨rfl, h⟩
    · rw [if_neg (by decide), h]
      rfl
    · rw [if_pos rfl, h]
      rfl
  · have hd : (decide (b.cars < lo) || decide (b.cars < hi)) = true := by simpa using h
    cases m with
    | position => exact hd
    | range => exact hd
    | neighbour => exact absurd hm (by decide)
    | all => exact absurd hm (by decide)
    | lead => exact absurd hm (by decide)

theorem mode_neighbour_iff (m : Mode) : m = .neighbour ↔ modeNum m = 0 := by cases m <;> decide

/-- Settles O18: each row of R69 refuses when the rows before it have passed. -/
theorem sendRefused : Obligations.SendRefused := by
  unfold Obligations.SendRefused
  intro n tag cls mode lo hi flags plen payload s hr body answer ranged single byPort badPos row3 row4 row6
  refine ⟨fun hlong => congrArg Host.Outcome.next ?_, fun hfits => ?_⟩
  · refine State.command_rejected s n tag 4 _ hr .badField (parseCmd_badLength (by decide) (by decide) (Or.inl ?_))
    show 480 < payload.length + 7
    omega
  have hparse := parseCmd_send cls mode lo hi flags plen payload hfits
  have refused : ∀ r, (∀ m : Memory, (Ev.start s.blk).sendCommand n cls mode lo hi flags plen.toNat payload =
      (Ev.start s.blk, .no r)) → answer r := fun r h =>
    congrArg Host.Outcome.next (State.command_same hr hparse h)
  refine ⟨fun hcode => refused _ fun _ => Ev.sendCommand_badCode _ n lo hi flags _ _ hcode,
    fun hmode hcls => ?_, fun hmode hcls => ?_⟩
  · obtain ⟨c, -, hc⟩ := clsOf_some (n := cls.toNat) (by omega)
    obtain ⟨m, -, hm⟩ := modeOf_some hmode
    refine refused _ fun _ => (Ev.sendCommand_coded _ n lo hi flags _ _ hc hm).trans (if_pos ?_)
    rw [← hc] at hcls
    cases c with
    | safety => exact Or.inl rfl
    | power => exact Or.inr rfl
    | control => exact absurd hcls (by decide)
    | service => exact absurd hcls (by decide)
  · obtain ⟨c, -, hc⟩ := clsOf_some (n := cls.toNat) (by omega)
    obtain ⟨m, -, hm⟩ := modeOf_some hmode
    have hrow2 : ¬ (c = .safety ∨ c = .power) := by
      rw [← hc] at hcls
      rintro (rfl | rfl)
      · exact absurd hcls (by decide)
      · exact absurd hcls (by decide)
    have hcoded := (Ev.sendCommand_coded (Ev.start s.blk) n lo hi flags plen.toNat payload hc hm).trans (if_neg hrow2)
    have hdest : badDest m lo.toNat hi.toNat = true ↔ row4 := by
      rw [badDest_iff, hm]
    refine ⟨fun h3 => refused _ fun _ => hcoded.trans (if_pos h3), fun h3 =>
      ⟨fun h4 => refused _ fun _ => hcoded.trans ((if_neg h3).trans (if_pos (hdest.mpr h4))), fun h4 => ?_⟩⟩
    have htry := hcoded.trans ((if_neg h3).trans (if_neg fun h => h4 (hdest.mp h)))
    have hport : m = .neighbour ↔ byPort := by
      rw [mode_neighbour_iff, hm]
    refine ⟨fun hp htable => refused _ fun _ => htry.trans (if_pos ⟨fun h => hp (hport.mp h), htable⟩),
      fun hp h6 => refused _ fun _ => htry.trans ((if_neg ?_).trans (if_pos (Blocks.unreachable_of ?_)))⟩
    · rintro ⟨hne, hnone⟩
      exact hp.elim (fun h => hne (hport.mpr h)) fun h => h hnone
    · show (modeNum m = 0 ∧ _) ∨ ((modeNum m = 1 ∨ modeNum m = 2) ∧ _)
      rw [hm]
      exact h6

/-! ## A SEND that is originated (R69 rows 7 and 8, R70) -/

theorem modeNum_byte (m : Mode) : (byte (modeNum m)).toNat = modeNum m := by cases m <;> rfl

theorem clsIdx_byte (c : Cls) : (byte (clsIdx c).val).toNat = (clsIdx c).val := by cases c <;> rfl

/-- An accepted SEND with a copy placed waits under its mark, and its local copy is offered. -/
theorem Ev.acceptSend_waits (e : Ev) (n : Fin 16) (id : Nat) (seq : Word) {x : Originated} (h : x.report.placed ≠ 0) :
    e.acceptSend n id seq x =
      ((e.setRelay { seq := seq + 1, waiting := e.relay.waiting ++
          [{ slot := some n, id := id, seq := seq, left := x.report.placed, sent := 0, lost := x.report.down
             localCopy := x.localTel.isSome }] }).offerLocal x.localTel, .taken (.send id) seq) := by
  unfold Ev.acceptSend
  rw [if_neg h]
  unfold Ev.offerLocal
  cases x.localTel with
  | none => rfl
  | some t => rfl

theorem sendOriginated_holds : Says.SendOriginated := by
  intro n tag lo hi flags plen payload c m s hr hcls hplen hfits hmax hdest htable hreach cls body q mark o x rep here
  have hparse := parseCmd_send cls (byte (modeNum m)) lo hi flags plen payload hfits
  have hlen : ¬ (Config.maxPayload < plen.toNat ∨ payload.length < plen.toNat) := by
    rw [show Config.maxPayload = 464 from rfl]
    omega
  have hadmit : (Ev.start s.blk).sendCommand n cls (byte (modeNum m)) lo hi flags plen.toNat payload =
      (Ev.start s.blk).admitSend n o := by
    rw [Ev.sendCommand_coded _ n lo hi flags _ _ (clsIdx_byte c).symm (modeNum_byte m).symm,
      if_neg ((cls_sendable c).mpr hcls), if_neg hlen,
      if_neg (by rw [hdest]; decide)]
    refine (if_neg fun h => htable h.1 h.2).trans (if_neg ?_)
    show ¬ s.blk.unreachable m lo.toNat hi.toNat = true
    rw [hreach]
    decide
  have hrefused : rep.refused ≠ 0 → (Ev.start s.blk).admitSend n o = (x.1, .no .noBuffer) := fun h => if_pos h
  have haccept : rep.refused = 0 → (Ev.start s.blk).admitSend n o = x.1.acceptSend n mark q x.2 :=
    fun h => if_neg fun k => k h
  refine ⟨fun hrep => congrArg Host.Outcome.next ?_, fun hrep hplaced => congrArg Host.Outcome.next ?_,
    fun hrep hplaced => congrArg Host.Outcome.next ?_⟩
  · exact State.command_leaves hr hparse fun _ => hadmit.trans (hrefused hrep)
  · exact State.command_leaves hr hparse fun _ => hadmit.trans ((haccept hrep).trans (if_pos hplaced))
  · refine (State.command_leaves hr hparse fun _ => hadmit.trans ((haccept hrep).trans (Ev.acceptSend_waits _ n mark q hplaced))).trans ?_
    rfl

/-! ## The end of a copy (R71) -/

section
variable {v : WaitSend} {before rest : List WaitSend} (h : ∀ w ∈ before, w.id ≠ v.id)
include h

theorem findSend_append : findSend v.id (before ++ v :: rest) = some v := by
  unfold findSend
  rw [List.find?_append, List.find?_eq_none.mpr fun w hw => by simpa using h w hw]
  exact List.find?_cons_of_pos (p := fun w : WaitSend => decide (w.id = v.id)) (decide_eq_true rfl)

theorem settleIn_append (sent : Bool) :
    settleIn v.id sent (before ++ v :: rest) =
      before ++ if (v.settle sent).left = 0 then rest else v.settle sent :: rest := by
  induction before with
  | nil => exact if_pos rfl
  | cons w ws ih =>
    refine (if_neg (h w List.mem_cons_self)).trans ?_
    exact congrArg (w :: ·) (ih fun y hy => h y (List.mem_cons_of_mem _ hy))

/-- The end of a copy of the SEND `v`. -/
theorem Ev.settleCopy_found {e : Ev} (hw : e.relay.waiting = before ++ v :: rest) (sent : Bool) :
    e.settleCopy (some v.id) sent =
      let e1 := e.setRelay { e.relay with
        waiting := before ++ if (v.settle sent).left = 0 then rest else v.settle sent :: rest }
      if (v.settle sent).left = 0 then
        e1.complete v.slot v.seq (hiLo (v.settle sent).sent (v.settle sent).lost) (flagWord v.localCopy)
      else e1 := by
  unfold Ev.settleCopy
  dsimp only
  rw [hw, findSend_append h, settleIn_append h]
  rfl

end

theorem sendCompletes_holds : Says.SendCompletes := by
  intro e v before rest sent hw hid u
  have hfound := Ev.settleCopy_found hid hw sent
  have hleft : (v.settle sent).left = v.left - 1 := rfl
  refine ⟨fun h2 => hfound.trans ?_, fun h1 n hn => hfound.trans ?_, fun h1 hn => hfound.trans ?_⟩
  · dsimp only
    rw [if_neg (by omega), if_neg (by omega)]
    rfl
  · dsimp only
    rw [if_pos (by omega), if_pos (by omega), hn]
    rfl
  · dsimp only
    rw [if_pos (by omega), if_pos (by omega), hn]
    rfl

/-- Settles O23: the originated SEND, and the end of its copies. -/
theorem sendAccepted : Obligations.SendAccepted := by
  unfold Obligations.SendAccepted
  exact ⟨sendOriginated_holds, sendCompletes_holds⟩

end Sys2Proof.Machine
end


section
/-! PROOF. The DOOR command (R102 to R106). -/

namespace Sys2Proof.Machine

/-! ## The sides a code names -/

theorem sidesOf_none {n : Nat} (h : n < 1 ∨ 3 < n) : sidesOf n = none := by
  unfold sidesOf
  split
  · omega
  · omega
  · omega
  · rfl

theorem sidesOf_sideNum (x : Side) : sidesOf (byte (sideNum x)).toNat = some [x] := by cases x <;> rfl

theorem sidesOf_some {n : Nat} {ss : List Side} (h : sidesOf n = some ss) :
    (∃ x, n = sideNum x ∧ ss = [x]) ∨ n = 3 ∧ ss = [.left, .right] := by
  unfold sidesOf at h
  split at h
  · exact Or.inl ⟨.left, rfl, (Option.some.inj h).symm⟩
  · exact Or.inl ⟨.right, rfl, (Option.some.inj h).symm⟩
  · exact Or.inr ⟨rfl, (Option.some.inj h).symm⟩
  · cases h

/-! ## The branches of R102 -/

section
variable {e : Ev} {c : DoorCmd} {ss : List Side} {x : Side} (hs : sidesOf c.side = some ss)
include hs

theorem Ev.doorCommand_badCode (h : c.action < 1 ∨ 4 < c.action ∨ c.scope < 1 ∨ 2 < c.scope) :
    e.doorCommand c = (e, .no .badField) := by
  unfold Ev.doorCommand
  rw [hs]
  exact if_pos h

/-- RELEASE of one side or CLOSE, in either scope. -/
theorem Ev.doorCommand_act (ha : c.action = 1 ∧ ss = [x] ∨ c.action = 2) (h1 : 1 ≤ c.scope) (h2 : c.scope ≤ 2) :
    e.doorCommand c =
      if c.scope = 1 then if c.badRange then (e, .no .badField) else e.trainDoor c else e.carDoor c ss := by
  unfold Ev.doorCommand
  rw [hs]
  refine (if_neg (by omega)).trans ?_
  rcases ha with ⟨ha, rfl⟩ | ha
  · exact (if_neg (by omega)).trans (if_pos ha)
  · exact if_pos ha

/-- Both sides may be named by CLOSE alone. -/
theorem Ev.doorCommand_both (ha : c.action ≠ 2) (hb : c.side = 3) : e.doorCommand c = (e, .no .badField) := by
  by_cases h : c.action < 1 ∨ 4 < c.action ∨ c.scope < 1 ∨ 2 < c.scope
  · exact Ev.doorCommand_badCode hs h
  · unfold Ev.doorCommand
    rw [hb, show sidesOf 3 = some [.left, .right] from rfl]
    exact (if_neg h).trans (if_neg ha)

end

section
variable {e : Ev} {c : DoorCmd} {x : Side} (hs : sidesOf c.side = some [x])
  (hc : ¬ (c.action < 1 ∨ 4 < c.action ∨ c.scope < 1 ∨ 2 < c.scope)) (ha : 3 ≤ c.action)
include hs hc ha

theorem Ev.doorCommand_badNumber (h : c.number < 1 ∨ 4 < c.number ∨ e.profile.doorCount x < c.number) :
    e.doorCommand c = (e, .no .badField) := by
  unfold Ev.doorCommand
  rw [hs]
  refine (if_neg hc).trans ((if_neg (by omega)).trans ((if_neg (by omega)).trans ?_))
  by_cases hn : 1 ≤ c.number ∧ c.number ≤ 4
  · exact (dif_pos hn).trans (if_pos (by omega))
  · exact dif_neg hn

/-- ISOLATE and RESTORE of door `d`. -/
theorem Ev.doorCommand_door {d : Fin 4} (hd : c.number = d.val + 1) (hcount : d.val < e.profile.doorCount x) :
    e.doorCommand c = if c.action = 3 then (e.isolate x d, .ok) else (e.restore x d, .ok) := by
  have hlt := d.isLt
  unfold Ev.doorCommand
  rw [hs]
  refine (if_neg hc).trans ((if_neg (by omega)).trans ((if_neg (by omega)).trans
    ((dif_pos (by omega)).trans ((if_neg (by omega)).trans ?_))))
  have hfin : (⟨c.number - 1, by omega⟩ : Fin 4) = d := Fin.ext (by
    show c.number - 1 = d.val
    omega)
  rw [hfin]

end

theorem DoorCmd.isAll_iff (c : DoorCmd) : c.isAll = true ↔ c.lo = 0 ∧ c.hi = 0 := by
  unfold DoorCmd.isAll
  rw [Bool.and_eq_true, beq_iff_eq, beq_iff_eq]

theorem DoorCmd.badRange_iff (c : DoorCmd) :
    c.badRange = true ↔ ¬ (c.lo = 0 ∧ c.hi = 0) ∧
      ¬ (1 ≤ c.lo ∧ c.lo ≤ 32 ∧ 1 ≤ c.hi ∧ c.hi ≤ 32 ∧ c.lo ≤ c.hi) := by
  unfold DoorCmd.badRange
  rw [Bool.and_eq_true, Bool.not_eq_true', ← Bool.not_eq_true, DoorCmd.isAll_iff]
  simp only [Bool.or_eq_true, decide_eq_true_iff]
  omega

/-- The command of a DOOR row. -/
def doorCmdOf (action scope side lo hi number attest : Byte) : DoorCmd :=
  { action := action.toNat, scope := scope.toNat, side := side.toNat, lo := lo.toNat, hi := hi.toNat
    number := number.toNat, attest := attest == 1 }

/-- A DOOR row whose command its block answers and does nothing else about. -/
theorem exec_door_same {n : Fin 16} {tag action scope side lo hi number attest : Byte} {s : State} {r : TakeResult}
    (hr : s.ready n tag)
    (h : (Ev.start s.blk).doorCommand (doorCmdOf action scope side lo hi number attest) = (Ev.start s.blk, r)) :
    exec (.door n tag action scope side lo hi number attest) s =
      .next (s.answered n tag 5 [action, scope, side, lo, hi, number, attest] s.blk r []) :=
  congrArg Host.Outcome.next
    (State.command_same (c := .door action scope side lo hi number attest) hr (by rfl) fun _ => h)

/-- A DOOR row whose command its block answers after an operation. -/
theorem exec_door_doing {n : Fin 16} {tag action scope side lo hi number attest : Byte} {s : State} {r : TakeResult}
    {b : Blocks} {g : Ev → Ev} (hr : s.ready n tag)
    (h : (Ev.start s.blk).doorCommand (doorCmdOf action scope side lo hi number attest) = (g (Ev.start b), r)) :
    exec (.door n tag action scope side lo hi number attest) s =
      .next (s.answeredDoing n tag 5 [action, scope, side, lo, hi, number, attest] b r g) :=
  congrArg Host.Outcome.next
    (State.command_doing (c := .door action scope side lo hi number attest) hr (by rfl) fun _ => h)

theorem doorBadFields_holds : Says.DoorBadFields := by
  intro n tag action scope side lo hi number attest s hr ranged inRange count h
  dsimp only [ranged, inRange] at h
  refine exec_door_same hr ?_
  cases hs : sidesOf side.toNat with
  | none =>
    unfold Ev.doorCommand
    rw [show sidesOf (doorCmdOf action scope side lo hi number attest).side = none from hs]
  | some ss =>
    have hside : sidesOf (doorCmdOf action scope side lo hi number attest).side = some ss := hs
    by_cases hcode : action.toNat < 1 ∨ 4 < action.toNat ∨ scope.toNat < 1 ∨ 2 < scope.toNat
    · exact Ev.doorCommand_badCode hside hcode
    have hrange : 1 ≤ side.toNat ∧ side.toNat ≤ 3 := by
      rcases sidesOf_some hs with ⟨x, hx, -⟩ | ⟨hx, -⟩
      · rw [hx]
        cases x <;> decide
      · omega
    have hone : ∀ x, side.toNat = sideNum x → count = s.blk.profile.doorCount x := by
      intro x hx
      cases x
      · exact if_pos hx
      · exact if_neg (by rw [hx]; decide)
    by_cases hsel : action.toNat = 2 ∨ action.toNat = 1 ∧ side.toNat ≠ 3
    · have hscope : scope.toNat = 1 := by omega
      have hbad : (doorCmdOf action scope side lo hi number attest).badRange = true := by
        refine (DoorCmd.badRange_iff _).mpr ?_
        show ¬ (lo.toNat = 0 ∧ hi.toNat = 0) ∧
          ¬ (1 ≤ lo.toNat ∧ lo.toNat ≤ 32 ∧ 1 ≤ hi.toNat ∧ hi.toNat ≤ 32 ∧ lo.toNat ≤ hi.toNat)
        omega
      obtain ⟨x, hact⟩ : ∃ x : Side, action.toNat = 1 ∧ ss = [x] ∨ action.toNat = 2 := by
        rcases hsel with h2 | ⟨h1, h3⟩
        · exact ⟨.left, Or.inr h2⟩
        · obtain ⟨x, -, hx⟩ := (sidesOf_some hs).resolve_right fun k => h3 k.1
          exact ⟨x, Or.inl ⟨h1, hx⟩⟩
      refine (Ev.doorCommand_act hside hact hscope.ge (hscope.le.trans (by decide))).trans ?_
      exact (if_pos hscope).trans (if_pos hbad)
    · by_cases hboth : side.toNat = 3
      · exact Ev.doorCommand_both hside (fun h2 => hsel (Or.inl h2)) hboth
      · obtain ⟨x, hx, rfl⟩ := (sidesOf_some hs).resolve_right fun k => hboth k.1
        have ha : 3 ≤ action.toNat := by omega
        refine Ev.doorCommand_badNumber hside hcode ha ?_
        show number.toNat < 1 ∨ 4 < number.toNat ∨ s.blk.profile.doorCount x < number.toNat
        have hcount := hone x hx
        omega

/-! ## CAR scope (R104) -/

/-- CLOSE of the sides named. -/
theorem Ev.doorCommand_carClose (e : Ev) {c : DoorCmd} {ss : List Side} (hs : sidesOf c.side = some ss)
    (ha : c.action = 2) (h2 : c.scope = 2) : e.doorCommand c = (e.closeSides ss, .ok) := by
  rw [Ev.doorCommand_act (x := .left) hs (Or.inr ha) (by omega) (by omega), if_neg (by omega)]
  exact if_pos ha

/-- RELEASE of one side. -/
theorem Ev.doorCommand_carRelease (e : Ev) {c : DoorCmd} {x : Side} (hs : sidesOf c.side = some [x])
    (ha : c.action = 1) (h2 : c.scope = 2) :
    e.doorCommand c =
      if e.consist.role ≠ .alone then (e, .no .notAuthorized)
      else ((e.releaseSide x c.attest .attestation .command).1,
        match (e.releaseSide x c.attest .attestation .command).2 with | none => .ok | some why => .no why) := by
  rw [Ev.doorCommand_act hs (Or.inl ⟨ha, rfl⟩) (by omega) (by omega), if_neg (by omega)]
  unfold Ev.carDoor
  rw [if_neg (by omega)]
  dsimp only
  rcases e.releaseSide x c.attest .attestation .command with ⟨e1, r⟩
  cases r with
  | none => rfl
  | some why => rfl

theorem doorCarScope_holds : Says.DoorCarScope := by
  intro n tag lo hi number attest s hr body
  refine ⟨?_, ?_, ?_, fun x => ⟨fun hrole => ?_, fun hrole => ?_⟩⟩
  · exact exec_door_doing hr (Ev.doorCommand_carClose _ (ss := [.left]) rfl rfl rfl)
  · exact exec_door_doing hr (Ev.doorCommand_carClose _ (ss := [.right]) rfl rfl rfl)
  · exact exec_door_doing hr (Ev.doorCommand_carClose _ (ss := [.left, .right]) rfl rfl rfl)
  · exact exec_door_same hr ((Ev.doorCommand_carRelease _ (sidesOf_sideNum x) rfl rfl).trans (if_pos hrole))
  · exact exec_door_doing hr
      ((Ev.doorCommand_carRelease _ (sidesOf_sideNum x) rfl rfl).trans (if_neg fun h => h hrole))

/-! ## ISOLATE and RESTORE (R105, R106) -/

/-- The examination of the close request, as one record. -/
theorem SideRec.examine_eq (r : SideRec) (n : Nat) :
    r.examine n =
      { r with closeReq := r.closeReq && (r.configured n).any fun z => z.state != .closed && z.state != .isolated } := by
  have hnot : r.allClosed n = !(r.configured n).any fun z => z.state != .closed && z.state != .isolated := by
    unfold SideRec.allClosed
    rw [List.not_any_eq_all_not]
    refine congrArg (fun f => (r.configured n).all f) (funext fun z => ?_)
    rw [Bool.not_and]
    simp only [bne, Bool.not_not]
  unfold SideRec.examine
  rw [hnot]
  cases hany : (r.configured n).any fun z => z.state != .closed && z.state != .isolated with
  | true =>
    rw [if_neg (by decide), Bool.and_true]
  | false =>
    rw [Bool.and_false]
    exact if_pos rfl

@[simp] theorem Doors.side_setSide (ds : Doors) (x : Side) (r : SideRec) : (ds.setSide x r).side x = r := by
  cases x <;> rfl

theorem SideRec.setDoor_get (r : SideRec) (d : Fin 4) (y : DoorRec) : (r.setDoor d y).doors.get d = y :=
  (Quad.get_set r.doors d d y).trans (if_pos rfl)

theorem Ev.closeLimit_profile (e : Ev) (x : Side) (d : Fin 4) : (e.closeLimit x d).profile = e.profile := by
  rw [(Ev.closeLimit_frame e x d).1]

/-- An isolated door enters no LATE. -/
theorem Ev.closeLimit_isolated (e : Ev) {x : Side} {d : Fin 4}
    (h : ((e.doors.side x).doors.get d).state = .isolated) : e.closeLimit x d = e := by
  unfold Ev.closeLimit
  dsimp only
  split
  · refine if_neg fun k => ?_
    rw [h] at k
    exact absurd k.2 (by decide)
  · rfl

/-- The taking of its due limit isolates no door. -/
theorem Ev.closeLimit_notIsolated (e : Ev) {x : Side} {d : Fin 4}
    (h : ((e.doors.side x).doors.get d).state ≠ .isolated) :
    (((e.closeLimit x d).doors.side x).doors.get d).state ≠ .isolated := by
  unfold Ev.closeLimit
  dsimp only
  split
  · split
    · intro k
      have hget : ((((e.doors.setSide x ((e.doors.side x).setDoor d
          { (e.doors.side x).doors.get d with state := .late, limitDue := none })).side x).doors.get d).state) =
          .isolated := k
      rw [Doors.side_setSide, SideRec.setDoor_get] at hget
      cases hget
    · exact h
  · exact h

theorem Ev.isolate_isolated (e : Ev) {x : Side} {d : Fin 4} (h : ((e.doors.side x).doors.get d).state = .isolated) :
    e.isolate x d = e := by
  unfold Ev.isolate
  rw [Ev.closeLimit_isolated e h]
  exact if_pos h

/-- A side with door `d` isolated. -/
def SideRec.isolate (r : SideRec) (d : Fin 4) (n : Nat) : SideRec :=
  (r.setDoor d { r.doors.get d with state := .isolated }).examine n

/-- ISOLATE of a door that is not isolated. -/
theorem Ev.isolate_door (e : Ev) {x : Side} {d : Fin 4} (h : ((e.doors.side x).doors.get d).state ≠ .isolated) :
    e.isolate x d =
      ((e.closeLimit x d).setDoors ((e.closeLimit x d).doors.setSide x
        (((e.closeLimit x d).doors.side x).isolate d (e.profile.doorCount x)))).doorsSettled
          (e.closeLimit x d).toBlocks := by
  unfold Ev.isolate Ev.isolateDoor SideRec.isolate
  rw [Ev.closeLimit_profile]
  exact if_neg (Ev.closeLimit_notIsolated e h)

/-- RESTORE of an isolated door. -/
theorem Ev.restore_door (e : Ev) {x : Side} {d : Fin 4} (h : ((e.doors.side x).doors.get d).state = .isolated) :
    e.restore x d =
      (if ((e.doors.side x).derive ((e.doors.side x).doors.get d)).state = .forced then
        (e.setDoors (e.doors.setSide x ((e.doors.side x).setDoor d
          ((e.doors.side x).derive ((e.doors.side x).doors.get d))))).noteForced x d
      else e.setDoors (e.doors.setSide x ((e.doors.side x).setDoor d
          ((e.doors.side x).derive ((e.doors.side x).doors.get d))))).doorsSettled e.toBlocks := if_pos h

theorem doorIsolateRestore_holds : Says.DoorIsolateRestore := by
  intro n tag scope lo hi attest x d s hr hscope hcount r y num body isolated restored
  have hcode : ∀ a : Nat, 3 ≤ a → a ≤ 4 → ¬ (a < 1 ∨ 4 < a ∨ scope.toNat < 1 ∨ 2 < scope.toNat) := by omega
  have hnum : num.toNat = d.val + 1 := by
    have := d.isLt
    show (d.val + 1) % 256 = d.val + 1
    omega
  have h3 : (Ev.start s.blk).doorCommand (doorCmdOf 3 scope (byte (sideNum x)) lo hi num attest) =
      ((Ev.start s.blk).isolate x d, .ok) :=
    (Ev.doorCommand_door (sidesOf_sideNum x) (hcode 3 (by decide) (by decide)) (show 3 ≤ 3 from le_rfl) hnum
      hcount).trans (if_pos rfl)
  have h4 : (Ev.start s.blk).doorCommand (doorCmdOf 4 scope (byte (sideNum x)) lo hi num attest) =
      ((Ev.start s.blk).restore x d, .ok) :=
    (Ev.doorCommand_door (sidesOf_sideNum x) (hcode 4 (by decide) (by decide)) (show 3 ≤ 4 by decide) hnum
      hcount).trans (if_neg (show ¬ (4 : Nat) = 3 by decide))
  refine ⟨fun hy => ?_, fun hy => ?_, fun hy => ?_, fun hy => ?_⟩
  · exact exec_door_same hr (h3.trans (congrArg (fun e => (e, TakeResult.ok)) (Ev.isolate_isolated _ hy)))
  · refine exec_door_doing hr (h3.trans (congrArg (fun e => (e, TakeResult.ok)) ((Ev.isolate_door _ hy).trans ?_)))
    have hside : ∀ r : SideRec, r.isolate d (s.blk.profile.doorCount x) = isolated r := fun r => SideRec.examine_eq _ _
    dsimp only
    rw [← hside]
    rfl
  · exact exec_door_same hr (h4.trans (congrArg (fun e => (e, TakeResult.ok)) (if_neg hy)))
  · exact exec_door_doing hr (h4.trans (congrArg (fun e => (e, TakeResult.ok)) (Ev.restore_door _ hy)))

/-- Settles O20: the field checks, CAR scope, ISOLATE and RESTORE. -/
theorem doorCommand : Obligations.DoorCommand := by
  unfold Obligations.DoorCommand
  exact ⟨doorBadFields_holds, doorCarScope_holds, doorIsolateRestore_holds⟩

/-! ## TRAIN scope (R103) -/

section
variable {e : Ev} {c : DoorCmd}

theorem Ev.trainDoor_notLead (h : e.consist.role ≠ .lead) : e.trainDoor c = (e, .no .notLead) := if_pos h

variable (h : e.consist.role = .lead)
include h

theorem Ev.trainDoor_sweeping (ha : c.action = 1) (hs : e.consist.sweep ≠ .idle) :
    e.trainDoor c = (e, .no .sweepInProgress) :=
  (if_neg fun k => k h).trans (if_pos ⟨ha, hs⟩)

variable (hs : ¬ (c.action = 1 ∧ e.consist.sweep ≠ .idle))
include hs

theorem Ev.trainDoor_beyond (hc : e.cars < c.hi) : e.trainDoor c = (e, .no .badDestination) := by
  refine (if_neg fun k => k h).trans ((if_neg hs).trans (if_pos ?_))
  have hall : c.isAll = false := by
    rw [← Bool.not_eq_true, DoorCmd.isAll_iff]
    omega
  rw [hall, decide_eq_true hc]
  rfl

theorem Ev.trainDoor_originates (hc : c.hi ≤ e.cars) :
    e.trainDoor c = ((e.originate (e.toBlocks.doorOutgoing c)).1.takeLocalDoor
        (e.originate (e.toBlocks.doorOutgoing c)).2.localTel,
      doorReply (e.originate (e.toBlocks.doorOutgoing c)).2.report
        (e.originate (e.toBlocks.doorOutgoing c)).2.localTel.isSome) := by
  refine (if_neg fun k => k h).trans ((if_neg hs).trans (if_neg ?_))
  rw [decide_eq_false (by omega : ¬ e.cars < c.hi), Bool.and_false]
  decide

end

/-- The local copy at the lead's own door block, then the delivery map. -/
theorem Ev.takeLocalDoor_eq (e : Ev) (t : Option Telegram) :
    e.takeLocalDoor t = match t with | some x => (e.takeDoor x.payload).offer 0 x | none => e := by
  cases t with
  | none => rfl
  | some x => rfl

theorem byte_toNat (b : Byte) : byte b.toNat = b :=
  (BitVec.ofNat_toNat 8 b).trans (BitVec.setWidth_eq b)

/-- Settles O19: the refusals in the order of R102 and R103, then the origination. -/
theorem doorTrainScope : Obligations.DoorTrainScope := by
  unfold Obligations.DoorTrainScope
  intro n tag action side lo hi number attest s hr haction hrange body c flag o x here
  obtain ⟨ss, y, hss, hact⟩ : ∃ ss y, sidesOf side.toNat = some ss ∧ (action.toNat = 1 ∧ ss = [y] ∨ action.toNat = 2) := by
    rcases haction with ⟨h1, hs | hs⟩ | ⟨h2, hs | hs | hs⟩
    · exact ⟨[.left], .left, by rw [hs]; rfl, Or.inl ⟨h1, rfl⟩⟩
    · exact ⟨[.right], .right, by rw [hs]; rfl, Or.inl ⟨h1, rfl⟩⟩
    · exact ⟨[.left], .left, by rw [hs]; rfl, Or.inr h2⟩
    · exact ⟨[.right], .right, by rw [hs]; rfl, Or.inr h2⟩
    · exact ⟨[.left, .right], .left, by rw [hs]; rfl, Or.inr h2⟩
  have htrain : (Ev.start s.blk).doorCommand (doorCmdOf action 1 side lo hi number attest) =
      (Ev.start s.blk).trainDoor (doorCmdOf action 1 side lo hi number attest) := by
    refine (Ev.doorCommand_act (c := doorCmdOf action 1 side lo hi number attest) hss hact le_rfl
      (show 1 ≤ 2 by decide)).trans ((if_pos rfl).trans (if_neg fun k => ?_))
    have hbad : ¬ (lo.toNat = 0 ∧ hi.toNat = 0) ∧
        ¬ (1 ≤ lo.toNat ∧ lo.toNat ≤ 32 ∧ 1 ≤ hi.toNat ∧ hi.toNat ≤ 32 ∧ lo.toNat ≤ hi.toNat) :=
      (DoorCmd.badRange_iff _).mp k
    omega
  have hout : s.blk.doorOutgoing (doorCmdOf action 1 side lo hi number attest) = o := by
    have hall : (doorCmdOf action 1 side lo hi number attest).isAll = decide (hi.toNat = 0) := by
      rw [Bool.eq_iff_iff, DoorCmd.isAll_iff, decide_eq_true_iff]
      show lo.toNat = 0 ∧ hi.toNat = 0 ↔ hi.toNat = 0
      omega
    unfold Blocks.doorOutgoing doorPayload
    rw [hall]
    simp only [decide_eq_true_iff]
    show Outgoing.mk .door .safety _ (byte lo.toNat) (byte hi.toNat) 0 0
      [byte action.toNat, byte side.toNat, byte (flagNat (s.blk.doorFlag (attest == 1)))] = _
    rw [byte_toNat, byte_toNat, byte_toNat, byte_toNat]
    rfl
  refine ⟨fun hrole => exec_door_same hr (htrain.trans (Ev.trainDoor_notLead hrole)), fun hrole =>
    ⟨fun h1 hs => exec_door_same hr (htrain.trans (Ev.trainDoor_sweeping hrole h1 hs)), fun hidle => ?_⟩⟩
  have hs : ¬ (action.toNat = 1 ∧ s.blk.consist.sweep ≠ .idle) := by
    rintro ⟨h1, h2⟩
    exact hidle.elim (fun k => by omega) h2
  refine ⟨fun hc => exec_door_same hr (htrain.trans (Ev.trainDoor_beyond hrole hs hc)), fun hc => ?_⟩
  refine exec_door_doing hr (htrain.trans ((Ev.trainDoor_originates hrole hs hc).trans ?_))
  rw [Ev.takeLocalDoor_eq, show (Ev.start s.blk).toBlocks.doorOutgoing (doorCmdOf action 1 side lo hi number attest) = o from hout]
  rfl

end Sys2Proof.Machine
end


section
/-! SUPPORT. The profile area as read (11.4): its fields, its first bad field, and the groups that differ (R178 to R180). -/

namespace Sys2Proof.Machine

/-! ## The fields as read -/

theorem loByte_toNat (w : Word) : (loByte w).toNat = w.toNat % 256 := by
  unfold loByte
  rw [BitVec.toNat_setWidth]

theorem hiByte_toNat (w : Word) : (hiByte w).toNat = w.toNat / 256 := by
  unfold hiByte
  rw [BitVec.toNat_setWidth, BitVec.toNat_ushiftRight, Nat.shiftRight_eq_div_pow]
  have := w.isLt
  omega

theorem word_eq_one_iff (w : Word) : w = 1 ↔ w.toNat = 1 :=
  ⟨fun h => by rw [h]; rfl, fun h => BitVec.eq_of_toNat_eq h⟩

/-! ## The first bad field (R178) -/

/-- `x` is the least offset from `k` on at which `P` fails, or none. -/
def FirstFailing (P : Nat → Prop) (k : Nat) (x : Option Nat) : Prop :=
  (x = none ↔ ∀ i, k ≤ i → P i) ∧ ∀ off, x = some off ↔ k ≤ off ∧ ¬ P off ∧ ∀ i, k ≤ i → i < off → P i

theorem FirstFailing.done {P : Nat → Prop} {k : Nat} (h : ∀ i, k ≤ i → P i) : FirstFailing P k none :=
  ⟨⟨fun _ => h, fun _ => rfl⟩, fun off => ⟨fun hx => absurd hx (Option.some_ne_none off).symm, fun ⟨hk, hn, _⟩ => absurd (h off hk) hn⟩⟩

theorem FirstFailing.holds {P : Nat → Prop} {k : Nat} {x : Option Nat} (hk : P k) (h : FirstFailing P (k + 1) x) :
    FirstFailing P k x := by
  have hall : ∀ Q : Nat → Prop, (Q k) → ((∀ i, k + 1 ≤ i → Q i) ↔ ∀ i, k ≤ i → Q i) := by
    refine fun Q hQ => ⟨fun hi i hle => ?_, fun hi i hle => hi i (by omega)⟩
    rcases Nat.eq_or_lt_of_le hle with rfl | hlt
    · exact hQ
    · exact hi i hlt
  refine ⟨h.1.trans (hall P hk), fun off => (h.2 off).trans ⟨fun ⟨hle, hn, hb⟩ => ⟨by omega, hn, ?_⟩,
    fun ⟨hle, hn, hb⟩ => ⟨?_, hn, fun i hi => hb i (by omega)⟩⟩⟩
  · exact (hall (fun i => i < off → P i) fun _ => hk).mp hb
  · rcases Nat.eq_or_lt_of_le hle with rfl | hlt
    · exact absurd hk hn
    · exact hlt

theorem FirstFailing.check {P : Nat → Prop} {k : Nat} {x : Option Nat} {c : Prop} [Decidable c] (hc : ¬ P k ↔ c)
    (h : FirstFailing P (k + 1) x) : FirstFailing P k (if c then some k else x) := by
  by_cases hk : c
  · rw [if_pos hk]
    have hn := hc.mpr hk
    refine ⟨⟨fun hx => absurd hx (Option.some_ne_none k), fun ha => absurd (ha k le_rfl) hn⟩, fun off => ⟨fun hx => ?_, fun ⟨hle, _, hb⟩ => ?_⟩⟩
    · obtain rfl := Option.some.inj hx
      exact ⟨le_rfl, hn, fun i h1 h2 => absurd h2 (by omega)⟩
    · rcases Nat.eq_or_lt_of_le hle with rfl | hlt
      · rfl
      · exact absurd (hb k le_rfl hlt) hn
  · rw [if_neg hk]
    exact FirstFailing.holds (not_not.mp fun hn => hk (hc.mp hn)) h

theorem identity_allOnes_iff (i : Ident) : ¬ i.toNat ≤ 0xFFFFFFFE ↔ i = BitVec.allOnes 32 := by
  have := i.isLt
  refine ⟨fun h => BitVec.eq_of_toNat_eq ?_, fun h => by rw [h]; decide⟩
  rw [BitVec.toNat_allOnes]
  omega

theorem profileRead_holds : Says.ProfileRead := by
  refine ⟨fun h => ?_, fun f mode => ?_⟩
  · intro w
    unfold readProfile
    simp only [loByte_toNat, hiByte_toNat, word_eq_one_iff]
    rfl
  · intro fits
    have hfirst : FirstFailing fits 0 (firstBadField f mode) := by
      unfold firstBadField
      refine .check (identity_allOnes_iff f.identity) (.holds trivial ?_)
      refine .check (show ¬ (f.doorsLeft ≤ 4 ∧ f.doorsRight ≤ 4) ↔ _ by omega) (.holds trivial ?_)
      refine .check (Nat.not_le) ?_
      refine .check (show ¬ (f.r ≤ 200 ∧ (f.identity = 0 → f.r = 0)) ↔ _ by
        rw [Decidable.not_and_iff_not_or_not, Nat.not_le, Classical.not_imp]) ?_
      refine .check (Nat.not_le) (.check (Nat.not_le) ?_)
      refine .check (show ¬ (mode = 0 ∨ mode = 1) ↔ _ by omega) ?_
      refine .check (show ¬ (10 ≤ f.closeLimit ∧ f.closeLimit ≤ 255) ↔ _ by omega) (.holds trivial (.holds trivial ?_))
      refine .check (Nat.not_le) ?_
      refine .check (show ¬ (1 ≤ f.q ∧ f.q ≤ 255) ↔ _ by omega) ?_
      refine .check (show ¬ (1 ≤ f.powerWeight ∧ f.powerWeight ≤ 31) ↔ _ by omega) ?_
      refine .check (show ¬ (1 ≤ f.serviceWeight ∧ f.serviceWeight ≤ 31) ↔ _ by omega) ?_
      refine .check (Nat.not_le) (.check (Nat.not_le) (.check (Nat.not_le) (.check (Nat.not_le) (.done fun i hi => ?_))))
      obtain ⟨j, rfl⟩ := Nat.exists_eq_add_of_le' hi
      trivial
    refine ⟨hfirst.1.trans ⟨fun h i => h i (Nat.zero_le i), fun h i _ => h i⟩, fun off => (hfirst.2 off).trans ?_⟩
    exact ⟨fun ⟨_, hn, hb⟩ => ⟨hn, fun i hi => hb i (Nat.zero_le i) hi⟩,
      fun ⟨hn, hb⟩ => ⟨Nat.zero_le off, hn, fun i _ hi => hb i hi⟩⟩

/-! ## The groups that differ (R180) -/

theorem bitsNat_testBit (bs : List Bool) (k : Nat) : (bitsNat bs).testBit k = bs.getD k false := by
  induction bs generalizing k with
  | nil => exact (Nat.zero_testBit k).trans (List.getD_nil).symm
  | cons b bs ih =>
    have hbit : bitsNat (b :: bs) = Nat.bit b (bitsNat bs) := by
      rw [Nat.bit_val, show bitsNat (b :: bs) = flagNat b + 2 * bitsNat bs from rfl, Nat.add_comm]
      cases b <;> rfl
    rw [hbit]
    cases k with
    | zero => exact Nat.testBit_bit_zero b _
    | succ k =>
      rw [Nat.testBit_bit_succ, ih]
      rfl

theorem DoorRec.isOpen_eq (x : DoorRec) : x.isOpen = (x.state != .closed && x.state != .isolated) := by
  unfold DoorRec.isOpen
  cases x.state <;> rfl

theorem Blocks.cabForbids_iff (b : Blocks) (g : Profile) :
    b.cabForbids g = true ↔ ∃ p, b.consist.cabEnd = some p ∧ (g.cabAt p = false ∨ g.identity = 0) := by
  unfold Blocks.cabForbids
  cases b.consist.cabEnd with
  | none => exact ⟨fun h => absurd h Bool.false_ne_true, fun ⟨p, h, _⟩ => absurd h.symm (Option.some_ne_none p)⟩
  | some p =>
    simp only [Bool.or_eq_true, Bool.not_eq_true', beq_iff_eq]
    exact ⟨fun h => ⟨p, rfl, h⟩, fun ⟨_, hq, h⟩ => by cases hq; exact h⟩

theorem flagNat_eq_zero (b : Bool) : flagNat b = 0 ↔ b = false := by cases b <;> decide

theorem SideRec.blocksCount_eq (r : SideRec) (n : Nat) :
    r.blocksCount n = (r.configured n).any fun x => x.state != .closed && x.state != .isolated :=
  congrArg (r.configured n).any (funext DoorRec.isOpen_eq)

theorem Blocks.openSides_eq (b : Blocks) (g : Profile) :
    b.openSides g =
      flagNat (decide (g.doorsLeft ≠ b.profile.doorsLeft) &&
        (b.doors.left.configured b.profile.doorsLeft).any fun x => x.state != .closed && x.state != .isolated) +
      2 * flagNat (decide (g.doorsRight ≠ b.profile.doorsRight) &&
        (b.doors.right.configured b.profile.doorsRight).any fun x => x.state != .closed && x.state != .isolated) := by
  unfold Blocks.openSides
  rw [SideRec.blocksCount_eq, SideRec.blocksCount_eq]

theorem not_ne_and_iff (a b : Nat) (c : Bool) : (decide (a ≠ b) && c) = false ↔ a = b ∨ ¬ c = true := by
  rw [Bool.and_eq_false_iff, decide_eq_false_iff_not, not_not, Bool.not_eq_true]

theorem profileChanges_holds : Says.ProfileChanges := by
  refine ⟨?_, fun b g => ⟨Blocks.cabForbids_iff b g, ?_⟩⟩
  · intro f g changed
    refine ⟨fun k => ?_, ?_⟩
    · rw [bitsNat_testBit]
      match k with
      | 0 => exact bne_iff_ne
      | 1 => exact (Bool.or_eq_true _ _).to_iff.trans (or_congr bne_iff_ne bne_iff_ne)
      | 2 => exact (Bool.or_eq_true _ _).to_iff.trans (or_congr bne_iff_ne bne_iff_ne)
      | 3 => exact (Bool.or_eq_true _ _).to_iff.trans (or_congr bne_iff_ne bne_iff_ne)
      | 4 =>
        show ((f.r != g.r || f.f != g.f) || f.s != g.s) = true ↔ (f.r ≠ g.r ∨ f.f ≠ g.f ∨ f.s ≠ g.s)
        simp only [Bool.or_eq_true, bne_iff_ne, or_assoc]
      | 5 => exact bne_iff_ne
      | 6 => exact bne_iff_ne
      | 7 => exact (Bool.or_eq_true _ _).to_iff.trans (or_congr bne_iff_ne bne_iff_ne)
      | 8 => exact bne_iff_ne
      | 9 => exact bne_iff_ne
      | 10 =>
        show (f.powerWeight != g.powerWeight || f.serviceWeight != g.serviceWeight || f.limSafety != g.limSafety ||
          f.limControl != g.limControl || f.limPower != g.limPower || f.limService != g.limService) = true ↔
          (f.powerWeight ≠ g.powerWeight ∨ f.serviceWeight ≠ g.serviceWeight ∨ f.limSafety ≠ g.limSafety ∨
            f.limControl ≠ g.limControl ∨ f.limPower ≠ g.limPower ∨ f.limService ≠ g.limService)
        simp only [Bool.or_eq_true, bne_iff_ne, or_assoc]
      | k + 11 => exact ⟨fun h => Bool.false_ne_true h, fun h => h.elim⟩
    · show entryChanged f g = true ↔ f.identity ≠ g.identity ∨ (f.doorsLeft ≠ g.doorsLeft ∨ f.doorsRight ≠ g.doorsRight) ∨
        (f.cab1 ≠ g.cab1 ∨ f.cab2 ≠ g.cab2) ∨ f.sensor ≠ g.sensor ∨ (f.r ≠ g.r ∨ f.f ≠ g.f ∨ f.s ≠ g.s)
      unfold entryChanged
      simp only [Bool.or_eq_true, bne_iff_ne, or_assoc]
  · rw [Blocks.openSides_eq, Nat.add_eq_zero_iff, Nat.mul_eq_zero, flagNat_eq_zero, flagNat_eq_zero, not_ne_and_iff,
      not_ne_and_iff]
    simp only [OfNat.ofNat_ne_zero, false_or]

end Sys2Proof.Machine
end


section
/-! PROOF. ADOPT_PROFILE: refused, accepted, and what the blocks make of it (R179, R180, R82, R83, R93, R99, R128, R131). -/

namespace Sys2Proof.Machine

/-! ## The command (R179) -/

section
variable {n : Fin 16} {tag : Byte} {s : State} (hr : s.ready n tag)
include hr

/-- The row at a slot that takes it, by the answer to the profile area as read. -/
theorem exec_adoptProfile {e : Ev} {r : TakeResult}
    (h : (Ev.start s.blk).adoptProfile (s.post n { req := .posted, kind := 1, tag := tag } []).host = (e, r)) :
    exec (.adoptProfile n tag) s = .next (s.answered n tag 1 [] e.toBlocks r e.allEffects) := by
  refine congrArg Host.Outcome.next ((State.command_taken s n tag 1 [] hr .adoptProfile rfl).trans ?_)
  have hd : (Ev.start s.blk).dispatch (s.post n { req := .posted, kind := 1, tag := tag } []).host n .adoptProfile =
      (e, r) := h
  dsimp only
  rw [hd]

end

section
variable {e : Ev} {h : Memory}

theorem Ev.adoptProfile_badField {off : Nat} (hb : firstBadField (readProfile h).1 (readProfile h).2 = some off) :
    e.adoptProfile h = (e, .refused .badField 0 (word off)) := by
  unfold Ev.adoptProfile
  dsimp only
  rw [hb]

variable (hb : firstBadField (readProfile h).1 (readProfile h).2 = none)
include hb

theorem Ev.adoptProfile_cabActive (hc : e.toBlocks.cabForbids (readProfile h).1 = true) :
    e.adoptProfile h = (e, .no .cabActive) := by
  unfold Ev.adoptProfile
  dsimp only
  rw [hb]
  exact if_pos hc

variable (hc : e.toBlocks.cabForbids (readProfile h).1 = false)
include hc

theorem Ev.adoptProfile_doorsOpen (ho : e.toBlocks.openSides (readProfile h).1 ≠ 0) :
    e.adoptProfile h =
      (e, .refused .doorsNotClosed 0 (word (e.toBlocks.openSides (readProfile h).1))) := by
  unfold Ev.adoptProfile
  dsimp only
  rw [hb]
  exact (if_neg (Bool.not_eq_true _ ▸ hc)).trans (if_pos ho)

theorem Ev.adoptProfile_accepted (ho : e.toBlocks.openSides (readProfile h).1 = 0) :
    e.adoptProfile h =
      (e.adopt (readProfile h).1,
       .done (word (bitsNat (changedGroups e.profile (readProfile h).1) +
         32768 * flagNat (e.toBlocks.joinDue e.profile (readProfile h).1))) 0 0) := by
  unfold Ev.adoptProfile
  dsimp only
  rw [hb]
  exact (if_neg (Bool.not_eq_true _ ▸ hc)).trans (if_neg fun k => k ho)

end

theorem flagNat_pair_ne_zero {a b : Bool} (h : a = true ∨ b = true) : flagNat a + 2 * flagNat b ≠ 0 := by
  rcases h with rfl | rfl
  · exact Nat.ne_of_gt (Nat.add_pos_left Nat.one_pos _)
  · exact Nat.ne_of_gt (Nat.add_pos_right _ (by decide))

theorem adoptRefused_holds : Says.AdoptRefused := by
  intro n tag s hr h g isOpen stuckLeft stuckRight cabForbids answer
  refine ⟨fun off hb => exec_adoptProfile hr (Ev.adoptProfile_badField hb), fun hb => ⟨fun hc => ?_, fun hc ho => ?_⟩⟩
  · exact exec_adoptProfile hr (Ev.adoptProfile_cabActive hb ((Blocks.cabForbids_iff s.blk g).mpr hc))
  · have hforbids : s.blk.cabForbids g = false :=
      Bool.eq_false_iff.mpr fun k => hc ((Blocks.cabForbids_iff s.blk g).mp k)
    have hopen : (Ev.start s.blk).toBlocks.openSides (readProfile h).1 = flagNat stuckLeft + 2 * flagNat stuckRight :=
      Blocks.openSides_eq s.blk g
    have hdoors := Ev.adoptProfile_doorsOpen (e := Ev.start s.blk) hb hforbids (by
      rw [hopen]
      exact flagNat_pair_ne_zero ho)
    rw [hopen] at hdoors
    exact exec_adoptProfile hr hdoors

/-! ## What an adoption leaves (R180) -/

/-- The items of the heating, supply and power blocks that no chapter has react to an adoption. -/
structure SettingsKept (e e' : Ev) : Prop where
  monitor : e'.monitor = e.monitor
  alloc : e'.alloc = e.alloc
  summary : e'.summary = e.summary
  setpoint : e'.demand.setpoint = e.demand.setpoint
  gain : e'.demand.gain = e.demand.gain
  boost : e'.demand.boost = e.demand.boost

theorem SettingsKept.refl (e : Ev) : SettingsKept e e := ⟨rfl, rfl, rfl, rfl, rfl, rfl⟩

theorem SettingsKept.trans {a b c : Ev} (h : SettingsKept a b) (k : SettingsKept b c) : SettingsKept a c :=
  ⟨k.monitor.trans h.monitor, k.alloc.trans h.alloc, k.summary.trans h.summary, k.setpoint.trans h.setpoint,
   k.gain.trans h.gain, k.boost.trans h.boost⟩

theorem SettingsKept.setDoors (e : Ev) (x : Doors) : SettingsKept e (e.setDoors x) := ⟨rfl, rfl, rfl, rfl, rfl, rfl⟩
theorem SettingsKept.setMotion (e : Ev) (m : Motion) : SettingsKept e (e.setMotion m) := ⟨rfl, rfl, rfl, rfl, rfl, rfl⟩
theorem SettingsKept.setProfile (e : Ev) (g : Profile) : SettingsKept e (e.setProfile g) := ⟨rfl, rfl, rfl, rfl, rfl, rfl⟩
theorem SettingsKept.notice (e : Ev) (k : Notice) (a b : Word) : SettingsKept e (e.notice k a b) :=
  ⟨rfl, rfl, rfl, rfl, rfl, rfl⟩
theorem SettingsKept.ask (e : Ev) (p : PageId) : SettingsKept e (e.ask p) := ⟨rfl, rfl, rfl, rfl, rfl, rfl⟩

theorem SettingsKept.ite {e a b : Ev} {c : Prop} [Decidable c] (ha : SettingsKept e a) (hb : SettingsKept e b) :
    SettingsKept e (if c then a else b) := by
  split
  · exact ha
  · exact hb

theorem SettingsKept.recompute (e : Ev) : SettingsKept e e.recompute := by
  have hd : e.recompute.demand = e.toBlocks.formDemand := rfl
  refine ⟨rfl, rfl, rfl, ?_, ?_, ?_⟩
  all_goals rw [hd, Blocks.formDemand_eq]

theorem SettingsKept.doorsSettled (e : Ev) (b : Blocks) : SettingsKept e (e.doorsSettled b) := by
  unfold Ev.doorsSettled
  dsimp only
  have h1 : SettingsKept e (if e.toBlocks.doorView = b.doorView then e else e.ask .door) :=
    .ite (.refl e) (.ask e _)
  exact .ite h1 (h1.trans (.recompute _))

theorem SettingsKept.withdraw (e : Ev) : SettingsKept e e.withdraw :=
  .ite (((SettingsKept.setDoors e _).trans (.notice _ _ _ _)).trans (.doorsSettled _ _)) (.refl e)

theorem SettingsKept.noteNewForced (ds : List (Fin 4)) (x : Side) (a b : Nat) (e : Ev) :
    SettingsKept e (e.noteNewForced x a b ds) := by
  induction ds generalizing e with
  | nil => exact .refl e
  | cons d ds ih =>
    exact (SettingsKept.ite (.notice e _ _ _) (.refl e)).trans (ih _)

theorem SettingsKept.adoptDoors (e : Ev) (b : Blocks) : SettingsKept e (e.adoptDoors b) := by
  unfold Ev.adoptDoors
  dsimp only
  refine SettingsKept.trans ?_ (.doorsSettled _ b)
  have h3 := fun x => ((SettingsKept.setDoors e x).trans
    (.noteNewForced [0, 1, 2, 3] .left b.profile.doorsLeft e.profile.doorsLeft _)).trans
    (.noteNewForced [0, 1, 2, 3] .right b.profile.doorsRight e.profile.doorsRight _)
  exact .ite (h3 _) ((h3 _).trans (.ask _ _))

theorem SettingsKept.adoptLimit (e : Ev) (old : Nat) : SettingsKept e (e.adoptLimit old) :=
  .ite ⟨rfl, rfl, rfl, rfl, rfl, rfl⟩
    (.ite (.ite ⟨rfl, rfl, rfl, rfl, rfl, rfl⟩ ⟨rfl, rfl, rfl, rfl, rfl, rfl⟩) (.refl e))

theorem SettingsKept.adoptCar (e : Ev) (g : Profile) : SettingsKept e (e.adoptCar g) := by
  have hsignal : SettingsKept e ((e.setProfile g).adoptMotion e.profile.z) :=
    ((SettingsKept.setProfile e g).trans (.setMotion _ _)).trans (.ite (.withdraw _) (.refl _))
  have hsides : SettingsKept e (e.adoptSides g) :=
    (hsignal.trans (.adoptDoors _ _)).trans (.ite (.withdraw _) (.refl _))
  exact (hsides.trans (.adoptLimit _ _)).trans (.ite (.recompute _) (.refl _))

theorem RelayOnly.settings {e e' : Ev} (h : RelayOnly e e') : SettingsKept e e' :=
  ⟨h.monitor, h.alloc, h.summary, congrArg Demand.setpoint h.demand, congrArg Demand.gain h.demand,
   congrArg Demand.boost h.demand⟩

/-- The link items of a port record (R6) but for its transmitter and counts. -/
structure LinkItemsKept (lp lp' : LinkPort) : Prop where
  state : lp'.state = lp.state
  nbrId : lp'.nbrId = lp.nbrId
  nbrEnd : lp'.nbrEnd = lp.nbrEnd
  settle : lp'.settle = lp.settle
  badRun : lp'.badRun = lp.badRun
  cleanRun : lp'.cleanRun = lp.cleanRun

theorem QueueOnly.items {lp lp' : LinkPort} (h : QueueOnly lp lp') : LinkItemsKept lp lp' :=
  ⟨(congrArg LinkPort.state h).trans rfl, (congrArg LinkPort.nbrId h).trans rfl, (congrArg LinkPort.nbrEnd h).trans rfl,
   (congrArg LinkPort.settle h).trans rfl, (congrArg LinkPort.badRun h).trans rfl, (congrArg LinkPort.cleanRun h).trans rfl⟩

theorem CarKept.items {e e' : Ev} (h : CarKept e e') (p : Port) : LinkItemsKept (e.port p) (e'.port p) := by
  cases p
  · exact h.port1.items
  · exact h.port2.items

/-- A JOIN leaves the settings, the table and the role. -/
theorem Ev.join_settings (e : Ev) (why : JoinReason) :
    SettingsKept e (e.join why) ∧ (e.join why).consist.table = e.consist.table ∧
      (e.join why).consist.role = e.consist.role := by
  unfold Ev.join
  split
  · exact ⟨.refl e, rfl, rfl⟩
  · unfold Ev.askResweep
    split
    · exact ⟨⟨rfl, rfl, rfl, rfl, rfl, rfl⟩, rfl, rfl⟩
    all_goals exact ⟨.refl e, rfl, rfl⟩
  · have hframe := Ev.originate_frame e { kind := .join, cls := .control, mode := .lead
                                          payload := [byte e.pos, byte (joinReasonNum why)] } none
    exact ⟨hframe.settings, congrArg Consist.table hframe.consist, congrArg Consist.role hframe.consist⟩

theorem Ev.adopt_settings (e : Ev) (g : Profile) :
    SettingsKept e (e.adopt g) ∧ (e.adopt g).consist.table = e.consist.table ∧
      (e.adopt g).consist.role = e.consist.role ∧ (∀ p, LinkItemsKept (e.port p) ((e.adopt g).port p)) ∧
      (e.adopt g).profile = g ∧ (e.adopt g).tick = e.tick := by
  have hcar := SettingsKept.adoptCar e g
  have hlines := Ev.adoptCar_lines e g
  have hport : ∀ p, (e.adoptCar g).port p = e.port p := fun p => hlines.port p
  rw [Ev.adopt_eq_adoptCar]
  split
  · obtain ⟨hset, htable, hrole⟩ := Ev.join_settings (e.adoptCar g) .profileChanged
    have hjoin := Ev.join_car (e.adoptCar g) .profileChanged
    exact ⟨hcar.trans hset, htable.trans (congrArg Consist.table hlines.consist),
      hrole.trans (congrArg Consist.role hlines.consist), fun p => hport p ▸ hjoin.items p,
      hjoin.profile.trans hlines.profile, hjoin.tick.trans hlines.tick⟩
  · exact ⟨hcar, congrArg Consist.table hlines.consist, congrArg Consist.role hlines.consist,
      fun p => hport p ▸ ⟨rfl, rfl, rfl, rfl, rfl, rfl⟩, hlines.profile, hlines.tick⟩

theorem adoptAccepted_holds : Says.AdoptAccepted := by
  intro n tag s hr h g hb hc ho changed joins
  obtain ⟨hset, htable, hrole, hports, hprofile, htick⟩ := Ev.adopt_settings (Ev.start s.blk) g
  refine ⟨_, exec_adoptProfile hr (Ev.adoptProfile_accepted hb hc ho), rfl, hprofile, htick, rfl, rfl, fun p => ?_,
    htable, hrole, hset.monitor, hset.alloc, hset.summary, hset.setpoint, hset.gain, hset.boost, fun hj => ?_⟩
  · obtain ⟨h1, h2, h3, h4, h5, h6⟩ := hports p
    exact ⟨h1, h2, h3, h4, h5, h6⟩
  · have hlines := Ev.adoptCar_lines (Ev.start s.blk) g
    have hstay : (Ev.start s.blk).adopt g = (Ev.start s.blk).adoptCar g :=
      (Ev.adopt_eq_adoptCar _ g).trans (if_neg (Bool.not_eq_true _ ▸ hj))
    exact ⟨(congrArg Ev.toBlocks hstay ▸ hlines.consist : _), congrArg Ev.toBlocks hstay ▸ hlines.relay⟩

/-! ## The reactions, in the order of R180 -/

theorem motionAdoption_holds : Says.MotionAdoption := by
  intro m sensor zChanged off
  unfold Motion.adopt
  refine ⟨fun hm hs => ?_, fun hm hs => ?_, fun hm hs => ?_, fun hm hs hz => ?_, fun hm hs hz => ?_⟩
  · rw [hm, hs]
  · rw [hm, hs]
  · rw [hs]
    cases hst : m.state with
    | unfitted => exact absurd hst hm
    | unknown | stopped | moving | faulted => rfl
  · rw [hm, hs]
    exact if_pos hz
  · rw [hs]
    cases hst : m.state with
    | unfitted => exact absurd hst hm
    | stopped => exact if_neg (hz.resolve_left (fun k => k hst) ▸ Bool.false_ne_true)
    | unknown | moving | faulted => rfl

theorem entryChanged_iff (f g : Profile) :
    entryChanged f g = true ↔
      (f.identity, f.doorsLeft, f.doorsRight, f.cab1, f.cab2, f.sensor, f.r, f.f, f.s) ≠
        (g.identity, g.doorsLeft, g.doorsRight, g.cab1, g.cab2, g.sensor, g.r, g.f, g.s) := by
  unfold entryChanged
  simp only [Bool.or_eq_true, bne_iff_ne, ne_eq, Prod.mk.injEq, Decidable.not_and_iff_not_or_not, or_assoc]

theorem Blocks.joinDue_iff (b : Blocks) (f g : Profile) :
    b.joinDue f g = true ↔ entryChanged f g = true ∧ b.consist.table ≠ none := by
  unfold Blocks.joinDue
  rw [Bool.and_eq_true, Option.isSome_iff_ne_none]

theorem adoptReactions_holds : Says.AdoptReactions := by
  intro e g f old m e1 e2 e3 e4 e5 items
  have hmotion : e3.motion = m :=
    (Ev.adoptDoors_flags e2 { e2.toBlocks with profile := f }).2.1.trans (Ev.motionSignal_frame e1 old).2
  have hcar : e.adoptCar g = e5 := by
    show ((if old = .unfitted ∧ e3.motion.state = .unknown then e3.withdraw else e3).adoptLimit f.otLimit).adoptStandby f.s = e5
    rw [hmotion]
  rw [Ev.adopt_eq_adoptCar, hcar]
  refine ⟨fun hi ht => if_pos ?_, fun h => if_neg fun k => ?_⟩
  · exact (Blocks.joinDue_iff _ _ _).mpr ⟨(entryChanged_iff f g).mpr hi, ht⟩
  · obtain ⟨hi, ht⟩ := (Blocks.joinDue_iff _ _ _).mp k
    exact h.elim ((entryChanged_iff f g).mp hi) ht

/-! ## The door counts (R93) -/

/-- The doors of a side that became configured as FORCED, each with its notice. -/
theorem Ev.noteNewForced_eq (ds : List (Fin 4)) (x : Side) (old new : Nat) (e : Ev) :
    e.noteNewForced x old new ds =
      (ds.filter fun d => decide (old ≤ d.val) && decide (d.val < new) &&
        ((e.doors.side x).doors.get d).state == .forced).foldl
        (fun e d => e.notice .doorForced (hiLo (sideNum x) (d.val + 1)) (word e.pos)) e := by
  induction ds generalizing e with
  | nil => rfl
  | cons d ds ih =>
    by_cases hd : old ≤ d.val ∧ d.val < new ∧ ((e.doors.side x).doors.get d).state = .forced
    · have htrue : (decide (old ≤ d.val) && decide (d.val < new) &&
          ((e.doors.side x).doors.get d).state == .forced) = true := by
        obtain ⟨h1, h2, h3⟩ := hd
        rw [decide_eq_true h1, decide_eq_true h2, h3]
        rfl
      rw [List.filter_cons, if_pos htrue]
      refine (congrArg (fun e' : Ev => e'.noteNewForced x old new ds) (if_pos hd)).trans ?_
      exact ih (e.noteForced x d)
    · have hfalse : ¬ (decide (old ≤ d.val) && decide (d.val < new) &&
          ((e.doors.side x).doors.get d).state == .forced) = true := by
        simpa [and_assoc] using hd
      rw [List.filter_cons, if_neg hfalse]
      refine (congrArg (fun e' : Ev => e'.noteNewForced x old new ds) (if_neg hd)).trans ?_
      exact ih e

/-- A side at an adoption of its door count. -/
theorem SideRec.adopt_doors (r : SideRec) {old new : Nat} (h : old ≠ new) (d : Fin 4) :
    (r.adopt old new).doors.get d = r.reconfigure old new d := by
  unfold SideRec.adopt
  rw [if_neg h]
  match d with
  | 0 => rfl
  | 1 => rfl
  | 2 => rfl
  | 3 => rfl

/-- What a door of a reconfigured side becomes, in one chain. -/
theorem SideRec.reconfigure_eq (r : SideRec) (old new : Nat) (d : Fin 4) :
    r.reconfigure old new d =
      if d.val < old ∧ d.val < new then r.doors.get d
      else if new ≤ d.val ∨ (r.doors.get d).contact then
        { state := .closed, contact := (r.doors.get d).contact, timer := 0, lastClose := 0, limitDue := none }
      else if r.release then
        { state := .opened, contact := (r.doors.get d).contact, timer := 0, lastClose := 0, limitDue := none }
      else if r.closeReq then
        { state := .closing, contact := (r.doors.get d).contact, timer := 0, lastClose := 0, limitDue := none }
      else { state := .forced, contact := (r.doors.get d).contact, timer := 0, lastClose := 0, limitDue := none } := by
  unfold SideRec.reconfigure
  refine ite_congr rfl (fun _ => rfl) fun _ => ?_
  by_cases hn : d.val < new
  · rw [if_pos hn]
    unfold SideRec.derive
    by_cases hc : (r.doors.get d).contact = true
    · exact (if_pos hc).trans (if_pos (Or.inr hc)).symm
    · exact (if_neg hc).trans (if_neg (fun k : new ≤ d.val ∨ _ => k.elim (fun k => by omega) hc)).symm
  · rw [if_neg hn, if_pos (Or.inl (Nat.not_lt.mp hn))]

theorem adoptDoors_holds : Says.AdoptDoors := by
  intro e f g
  refine ⟨e.doors.left.adopt f.doorsLeft g.doorsLeft, e.doors.right.adopt f.doorsRight g.doorsRight, ?_⟩
  intro new forced tell e1
  refine ⟨?_, fun x => ?_⟩
  · have hleft : ∀ e' : Ev, e'.doors.left = new .left →
        e'.noteNewForced .left f.doorsLeft g.doorsLeft [0, 1, 2, 3] = (forced .left).foldl (tell .left) e' := by
      intro e' h
      rw [Ev.noteNewForced_eq, show e'.doors.side .left = new .left from h]
      rfl
    have hright : ∀ e' : Ev, e'.doors.right = new .right →
        e'.noteNewForced .right f.doorsRight g.doorsRight [0, 1, 2, 3] = (forced .right).foldl (tell .right) e' := by
      intro e' h
      rw [Ev.noteNewForced_eq, show e'.doors.side .right = new .right from h]
      rfl
    unfold Ev.adoptDoors
    dsimp only
    rw [hright _ ((Ev.noteNewForced_sides _ _ _ _ _).right.trans rfl), hleft _ rfl]
  · intro r
    have hnew : new x = r.adopt (f.doorCount x) (g.doorCount x) := by cases x <;> rfl
    rw [hnew]
    refine ⟨fun h => if_pos h, fun h => ⟨?_, fun d => ?_⟩⟩
    · unfold SideRec.adopt
      rw [if_neg h]
    · rw [SideRec.adopt_doors r h]
      exact SideRec.reconfigure_eq r _ _ d

/-! ## Channel B and the demand (R131, R128) -/

theorem adoptLimit_holds : Says.AdoptLimit := by
  intro e old l v out
  refine ⟨fun ho hl => if_pos ⟨ho, hl⟩, fun ho hl hp => ?_, fun ho hl hp => ?_, fun h => ?_⟩
  · exact (if_neg fun k => ho k.1).trans ((if_pos ⟨ho, hl⟩).trans (if_neg hp))
  · exact (if_neg fun k => ho k.1).trans ((if_pos ⟨ho, hl⟩).trans (if_pos hp))
  · exact (if_neg fun k => k.2 (h.mp k.1)).trans (if_neg fun k => k.1 (h.mpr k.2))

theorem Blocks.tempUnavailable_iff (b : Blocks) :
    b.tempUnavailable = true ↔ b.converter.chA.state = .noCode ∨ b.converter.chA.state = .unavailable := by
  unfold Blocks.tempUnavailable
  rw [Bool.or_eq_true, beq_iff_eq, beq_iff_eq]

theorem adoptStandby_holds : Says.AdoptStandby := by
  intro e old a
  refine ⟨fun ho ha => (if_pos ⟨ho, (Blocks.tempUnavailable_iff _).mpr ha⟩).trans ?_, fun h => if_neg fun k => ?_⟩
  · refine congrArg e.setDemand ?_
    have hnot : ¬ (e.converter.chA.state = .valid ∨ e.converter.chA.state = .stale) := by
      rcases ha with ha | ha
      all_goals
        rw [show e.converter.chA.state = _ from ha]
        decide
    rw [Blocks.formDemand_eq, if_neg hnot, if_neg hnot]
  · have ha := (Blocks.tempUnavailable_iff _).mp k.2
    exact h.elim k.1 fun hn => ha.elim hn.1 hn.2

/-- Settles O39: the profile area, the refusals, the adoption and its reactions. -/
theorem adoptProfile : Obligations.AdoptProfile := by
  unfold Obligations.AdoptProfile
  exact ⟨profileRead_holds, profileChanges_holds, adoptRefused_holds, adoptAccepted_holds, motionAdoption_holds,
    adoptReactions_holds, adoptDoors_holds, adoptLimit_holds, adoptStandby_holds⟩

end Sys2Proof.Machine
end


section
/-! PROOF. The transmitter (R4, R5, R67) and the scheduler's choice (R64, R65). -/

namespace Sys2Proof.Machine

/-! ## An event of the blocks, by what it leaves -/

section
variable {s : State} {g : Ev → Ev}

theorem runEvent_stays (h : g (Ev.start s.blk) = Ev.start s.blk) : runEvent g s = s := by
  unfold runEvent
  rw [h]
  rfl

theorem runEvent_doing {b : Blocks} {g' : Ev → Ev} (h : g (Ev.start s.blk) = g' (Ev.start b)) :
    runEvent g s = s.does b g' := congrArg s.finish h

theorem runEvent_leaving {e : Ev} (h : g (Ev.start s.blk) = e) : runEvent g s = s.after e.toBlocks e.allEffects :=
  congrArg s.finish h

end

/-! ## The transmitter -/

/-- The end of a SEND's copy leaves the ports, the profile and the other blocks. -/
theorem Ev.settleCopy_lines (e : Ev) (o : Option Nat) (sent : Bool) :
    (∀ p, (e.settleCopy o sent).port p = e.port p) ∧ (e.settleCopy o sent).profile = e.profile := by
  unfold Ev.settleCopy
  split
  · exact ⟨fun _ => rfl, rfl⟩
  · split
    · exact ⟨fun _ => rfl, rfl⟩
    · dsimp only
      split
      · unfold Ev.complete
        split
        · exact ⟨fun p => by cases p <;> rfl, rfl⟩
        · exact ⟨fun p => by cases p <;> rfl, rfl⟩
      · exact ⟨fun p => by cases p <;> rfl, rfl⟩

theorem Ev.markDue_idle {e : Ev} {p : Port} (h : (e.port p).tx = .idle) :
    e.markDue p = e.setPort p { e.port p with tx := .mark e.profile.identity, markDue := false } := if_pos h

theorem Ev.markDue_busy {e : Ev} {p : Port} (h : (e.port p).tx ≠ .idle) :
    e.markDue p = e.setPort p { e.port p with markDue := true } := if_neg h

theorem markDue_holds : Says.MarkDue := by
  intro p s lp
  have hset : ∀ x : LinkPort, (Ev.start s.blk).markDue p = (Ev.start s.blk).setPort p x →
      runEvent (fun e => e.markDue p) s = s.after (s.blk.withPort p x) [] := fun x h =>
    runEvent_leaving (e := Ev.start (s.blk.withPort p x)) (h.trans (Ev.start_setPort s.blk p x))
  refine congrArg Host.Outcome.next (hset _ ?_)
  by_cases h : lp.tx = .idle
  · rw [if_pos h]
    exact Ev.markDue_idle h
  · rw [if_neg h]
    exact Ev.markDue_busy h

/-- What an idle transmitter is given. -/
theorem Ev.nextFrame_idle {e : Ev} {p : Port} (h : (e.port p).tx = .idle) :
    e.nextFrame p =
      if (e.port p).markDue then e.setPort p { e.port p with tx := .mark e.profile.identity, markDue := false }
      else if (e.port p).state = .up then e.setPort p ((e.port p).schedule e.profile) else e := by
  unfold Ev.nextFrame Ev.kick Blocks.isUp
  refine ite_congr rfl (fun _ => rfl) fun _ => ?_
  exact ite_congr (propext ⟨fun k => beq_iff_eq.mp k.1, fun k => ⟨beq_iff_eq.mpr k, h⟩⟩) (fun _ => rfl) fun _ => rfl

theorem frameEnd_holds : Says.FrameEnd := by
  intro p s lp b next
  have hstart : (Ev.start s.blk).setPort p { lp with tx := .idle } = Ev.start b := Ev.start_setPort _ _ _
  have hb : b.port p = { lp with tx := .idle } := Blocks.port_withPort _ _ _
  have hprof : b.profile = s.blk.profile := by cases p <;> rfl
  have hnext : ∀ e : Ev, e.port p = { lp with tx := .idle } → e.profile = s.blk.profile → e.nextFrame p = next e := by
    intro e hp hf
    rw [Ev.nextFrame_idle (by rw [hp]), hp, hf]
    dsimp only [next]
    rw [hp]
  refine ⟨fun hi => ?_, fun hm => ?_, fun q hq => ?_⟩
  · refine congrArg Host.Outcome.next (runEvent_stays ?_)
    unfold Ev.frameEnd
    rw [show ((Ev.start s.blk).port p).tx = .idle from hi]
  · refine congrArg Host.Outcome.next (runEvent_doing ?_)
    rcases hm with ⟨i, hm⟩ | hm
    all_goals
      unfold Ev.frameEnd
      rw [show ((Ev.start s.blk).port p).tx = _ from hm]
      exact (congrArg (fun e : Ev => e.nextFrame p) hstart).trans (hnext _ hb hprof)
  · refine congrArg Host.Outcome.next (runEvent_doing ?_)
    unfold Ev.frameEnd
    rw [show ((Ev.start s.blk).port p).tx = _ from hq]
    obtain ⟨hports, hprofile⟩ := Ev.settleCopy_lines (Ev.start b) q.origin true
    refine (congrArg (fun e : Ev => (e.settleCopy q.origin true).nextFrame p) hstart).trans
      (hnext _ ((hports p).trans hb) (hprofile.trans hprof))

/-- Settles O21: a mark falls due, and a frame ends. -/
theorem transmitter : Obligations.Transmitter := by
  unfold Obligations.Transmitter
  exact ⟨markDue_holds, frameEnd_holds⟩

/-! ## The choice by class (R64) -/

theorem scheduleByClass_holds : Says.ScheduleByClass := by
  intro f lp
  refine ⟨fun q rest h => ?_, fun q rest h0 h1 => ?_, fun h => ?_⟩
  · unfold LinkPort.schedule
    rw [show lp.queue .safety = q :: rest from h]
    rfl
  · unfold LinkPort.schedule
    rw [show lp.queue .safety = [] from h0, show lp.queue .control = q :: rest from h1]
    rfl
  · unfold LinkPort.schedule LinkPort.queue
    rw [h]
    rfl

/-- With the SAFETY and CONTROL queues empty and another not, deficit round robin chooses. -/
theorem LinkPort.schedule_roundRobin (f : Profile) {lp : LinkPort} (h0 : lp.queues.x0 = []) (h1 : lp.queues.x1 = [])
    (h : lp.queues.x2 ≠ [] ∨ lp.queues.x3 ≠ []) : lp.schedule f = lp.roundRobin f Config.drrFuel := by
  unfold LinkPort.schedule
  rw [show lp.queue .safety = [] from h0, show lp.queue .control = [] from h1]
  dsimp only
  split
  · next h2 h3 => exact absurd h (fun k => k.elim (fun k => k h2) fun k => k h3)
  · rfl

/-! ## Turns of the deficit round robin (R65) -/

section
variable {f : Profile} {n : Nat} {lp : LinkPort} {q : QTel} {rest : List QTel}

theorem LinkPort.roundRobin_empty (h : lp.queue (turnCls lp.turn) = []) :
    lp.roundRobin f (n + 1) = lp.passTurn.roundRobin f n := by
  rw [LinkPort.roundRobin, h]

theorem LinkPort.roundRobin_fits (h : lp.queue (turnCls lp.turn) = q :: rest)
    (hfit : telLen q.tel ≤ (lp.addQuantum f).deficit (lp.addQuantum f).turn) :
    lp.roundRobin f (n + 1) = (lp.addQuantum f).takeHead q rest := by
  rw [LinkPort.roundRobin, h]
  exact if_pos hfit

theorem LinkPort.roundRobin_short (h : lp.queue (turnCls lp.turn) = q :: rest)
    (hfit : ¬ telLen q.tel ≤ (lp.addQuantum f).deficit (lp.addQuantum f).turn) :
    lp.roundRobin f (n + 1) = (lp.addQuantum f).passTurn.roundRobin f n := by
  rw [LinkPort.roundRobin, h]
  exact if_neg hfit

end

/-- What the turns of the round robin before a choice may change of a port. -/
structure Turned (lp lp' : LinkPort) : Prop where
  same : lp' = { lp with defPower := lp'.defPower, defService := lp'.defService, turn := lp'.turn
                         quantumAdded := lp'.quantumAdded }

theorem Turned.refl (lp : LinkPort) : Turned lp lp := ⟨rfl⟩

theorem Turned.trans {a b c : LinkPort} (h : Turned a b) (k : Turned b c) : Turned a c := ⟨by rw [k.same, h.same]⟩

theorem Turned.queues {a b : LinkPort} (h : Turned a b) : b.queues = a.queues := by rw [h.same]

theorem Turned.queue {a b : LinkPort} (h : Turned a b) (c : Cls) : b.queue c = a.queue c :=
  congrArg (fun q : Quad (List QTel) => q.get (clsIdx c)) h.queues

theorem LinkPort.passTurn_turned (lp : LinkPort) : Turned lp lp.passTurn := ⟨rfl⟩

theorem LinkPort.setDeficit_turned (lp : LinkPort) (t : DrrTurn) (n : Nat) : Turned lp (lp.setDeficit t n) := by
  cases t
  · exact ⟨rfl⟩
  · exact ⟨rfl⟩

theorem LinkPort.setDeficit_turn (lp : LinkPort) (t : DrrTurn) (n : Nat) : (lp.setDeficit t n).turn = lp.turn := by
  cases t <;> rfl

theorem LinkPort.deficit_setDeficit (lp : LinkPort) (t : DrrTurn) (n : Nat) : (lp.setDeficit t n).deficit t = n := by
  cases t <;> rfl

theorem LinkPort.deficit_setDeficit_other (lp : LinkPort) (t : DrrTurn) (n : Nat) :
    (lp.setDeficit t n).deficit (turnOther t) = lp.deficit (turnOther t) := by
  cases t <;> rfl

theorem LinkPort.addQuantum_turned (f : Profile) (lp : LinkPort) : Turned lp (lp.addQuantum f) := by
  unfold LinkPort.addQuantum
  split
  · exact .refl lp
  · exact (LinkPort.setDeficit_turned lp _ _).trans ⟨rfl⟩

theorem LinkPort.addQuantum_turn (f : Profile) (lp : LinkPort) : (lp.addQuantum f).turn = lp.turn := by
  unfold LinkPort.addQuantum
  split
  · rfl
  · exact LinkPort.setDeficit_turn _ _ _

theorem LinkPort.addQuantum_added (f : Profile) (lp : LinkPort) : (lp.addQuantum f).quantumAdded = true := by
  unfold LinkPort.addQuantum
  split
  · next h => exact h
  · rfl

/-! ## The round robin chooses -/

/-- Whether a choice falls within `n` turns. -/
def LinkPort.chooses (f : Profile) : Nat → LinkPort → Prop
  | 0, _ => False
  | n + 1, lp =>
    match lp.queue (turnCls lp.turn) with
    | [] => LinkPort.chooses f n lp.passTurn
    | q :: _ =>
      telLen q.tel ≤ (lp.addQuantum f).deficit (lp.addQuantum f).turn ∨ LinkPort.chooses f n (lp.addQuantum f).passTurn

section
variable {f : Profile} {n : Nat} {lp : LinkPort} {q : QTel} {rest : List QTel}

theorem LinkPort.chooses_empty (h : lp.queue (turnCls lp.turn) = []) :
    lp.chooses f (n + 1) ↔ lp.passTurn.chooses f n := by
  rw [LinkPort.chooses, h]

theorem LinkPort.chooses_head (h : lp.queue (turnCls lp.turn) = q :: rest) :
    lp.chooses f (n + 1) ↔ telLen q.tel ≤ (lp.addQuantum f).deficit (lp.addQuantum f).turn ∨
      (lp.addQuantum f).passTurn.chooses f n := by
  rw [LinkPort.chooses, h]

theorem LinkPort.chooses_succ (h : lp.chooses f n) : lp.chooses f (n + 1) := by
  induction n generalizing lp with
  | zero => exact h.elim
  | succ n ih =>
    cases hq : lp.queue (turnCls lp.turn) with
    | nil => exact (LinkPort.chooses_empty hq).mpr (ih ((LinkPort.chooses_empty hq).mp h))
    | cons q rest => exact (LinkPort.chooses_head hq).mpr (((LinkPort.chooses_head hq).mp h).imp_right ih)

theorem LinkPort.chooses_mono {m : Nat} (h : lp.chooses f n) (hle : n ≤ m) : lp.chooses f m := by
  induction hle with
  | refl => exact h
  | step _ ih => exact LinkPort.chooses_succ ih

/-- Turns beyond those that choose are not taken. -/
theorem LinkPort.roundRobin_succ (h : lp.chooses f n) : lp.roundRobin f (n + 1) = lp.roundRobin f n := by
  induction n generalizing lp with
  | zero => exact h.elim
  | succ n ih =>
    cases hq : lp.queue (turnCls lp.turn) with
    | nil =>
      rw [LinkPort.roundRobin_empty hq, LinkPort.roundRobin_empty hq]
      exact ih ((LinkPort.chooses_empty hq).mp h)
    | cons q rest =>
      by_cases hfit : telLen q.tel ≤ (lp.addQuantum f).deficit (lp.addQuantum f).turn
      · rw [LinkPort.roundRobin_fits hq hfit, LinkPort.roundRobin_fits hq hfit]
      · rw [LinkPort.roundRobin_short hq hfit, LinkPort.roundRobin_short hq hfit]
        exact ih (((LinkPort.chooses_head hq).mp h).resolve_left hfit)

/-- The choice: a head of one of the two queues, after turns that change the deficits and the turn alone. -/
theorem LinkPort.roundRobin_takes (h : lp.chooses f n) :
    ∃ lp1 q rest, Turned lp lp1 ∧ lp1.quantumAdded = true ∧ lp.queue (turnCls lp1.turn) = q :: rest ∧
      lp.roundRobin f n = lp1.takeHead q rest := by
  induction n generalizing lp with
  | zero => exact h.elim
  | succ n ih =>
    cases hq : lp.queue (turnCls lp.turn) with
    | nil =>
      obtain ⟨lp1, q, rest, ht, ha, hq1, hr⟩ := ih ((LinkPort.chooses_empty hq).mp h)
      exact ⟨lp1, q, rest, (LinkPort.passTurn_turned lp).trans ht, ha, hq1, (LinkPort.roundRobin_empty hq).trans hr⟩
    | cons q rest =>
      have hadd := LinkPort.addQuantum_turned f lp
      by_cases hfit : telLen q.tel ≤ (lp.addQuantum f).deficit (lp.addQuantum f).turn
      · refine ⟨lp.addQuantum f, q, rest, hadd, LinkPort.addQuantum_added f lp, ?_, LinkPort.roundRobin_fits hq hfit⟩
        rw [LinkPort.addQuantum_turn]
        exact hq
      · have hpass := hadd.trans (LinkPort.passTurn_turned _)
        obtain ⟨lp1, q1, rest1, ht, ha, hq1, hr⟩ := ih (((LinkPort.chooses_head hq).mp h).resolve_left hfit)
        exact ⟨lp1, q1, rest1, hpass.trans ht, ha, (hpass.queue _).symm.trans hq1,
          (LinkPort.roundRobin_short hq hfit).trans hr⟩

end

/-! ### Within the offer's turns -/

theorem LinkPort.addQuantum_gains {f : Profile} {lp : LinkPort} (hw : ∀ t, 32 ≤ quantum f t) (h : lp.quantumAdded = false) :
    lp.deficit lp.turn + 32 ≤ (lp.addQuantum f).deficit lp.turn := by
  unfold LinkPort.addQuantum
  rw [if_neg (by rw [h]; decide)]
  show _ ≤ (lp.setDeficit lp.turn (lp.deficit lp.turn + quantum f lp.turn)).deficit lp.turn
  rw [LinkPort.deficit_setDeficit]
  exact Nat.add_le_add_left (hw lp.turn) _

theorem LinkPort.addQuantum_grows (f : Profile) (lp : LinkPort) :
    lp.deficit lp.turn ≤ (lp.addQuantum f).deficit lp.turn := by
  unfold LinkPort.addQuantum
  split
  · exact le_rfl
  · show _ ≤ (lp.setDeficit lp.turn (lp.deficit lp.turn + quantum f lp.turn)).deficit lp.turn
    rw [LinkPort.deficit_setDeficit]
    exact Nat.le_add_right _ _

theorem LinkPort.addQuantum_other (f : Profile) (lp : LinkPort) :
    (lp.addQuantum f).deficit (turnOther lp.turn) = lp.deficit (turnOther lp.turn) := by
  unfold LinkPort.addQuantum
  split
  · rfl
  · exact LinkPort.deficit_setDeficit_other _ _ _

theorem LinkPort.deficit_passTurn (lp : LinkPort) (t : DrrTurn) : lp.passTurn.deficit t = lp.deficit t := by
  cases t <;> rfl

theorem turnOther_turnOther (t : DrrTurn) : turnOther (turnOther t) = t := by cases t <;> rfl

/-- A turn of the other class: a choice falls in it, or the turn comes back with a quantum to add. -/
theorem LinkPort.chooses_other {f : Profile} {t : DrrTurn} {n : Nat} {lp : LinkPort} (ht : lp.turn = turnOther t)
    (hnext : ∀ lp' : LinkPort, Turned lp lp' → lp'.turn = t → lp'.quantumAdded = false → lp'.deficit t = lp.deficit t →
      lp'.chooses f n) : lp.chooses f (n + 1) := by
  have hback : turnOther lp.turn = t := by rw [ht, turnOther_turnOther]
  cases hq : lp.queue (turnCls lp.turn) with
  | nil =>
    exact (LinkPort.chooses_empty hq).mpr
      (hnext lp.passTurn (LinkPort.passTurn_turned lp) hback rfl (LinkPort.deficit_passTurn lp t))
  | cons q rest =>
    refine (LinkPort.chooses_head hq).mpr (Or.inr (hnext _ ((LinkPort.addQuantum_turned f lp).trans
      (LinkPort.passTurn_turned _)) ?_ rfl ?_))
    · show turnOther (lp.addQuantum f).turn = t
      rw [LinkPort.addQuantum_turn, hback]
    · rw [LinkPort.deficit_passTurn, ← hback, LinkPort.addQuantum_other]

section
variable {f : Profile} {t : DrrTurn} (hw : ∀ t, 32 ≤ quantum f t)
include hw

/-- From a turn whose quantum is to be added, a deficit `32 k` bytes short of the longest telegram is made up in `k`
rounds. -/
theorem LinkPort.chooses_rounds (k : Nat) {lp : LinkPort} {q : QTel} {rest : List QTel} (ht : lp.turn = t)
    (ha : lp.quantumAdded = false) (hq : lp.queue (turnCls t) = q :: rest) (hlen : telLen q.tel ≤ lp.deficit t + 32 * k) :
    lp.chooses f (2 * k + 1) := by
  have hhead : lp.queue (turnCls lp.turn) = q :: rest := by rw [ht, hq]
  refine (LinkPort.chooses_head hhead).mpr ?_
  rw [LinkPort.addQuantum_turn]
  have hgain := LinkPort.addQuantum_gains hw ha
  induction k generalizing lp with
  | zero =>
    refine Or.inl (hlen.trans ?_)
    rw [← ht]
    omega
  | succ k ih =>
    by_cases hfit : telLen q.tel ≤ (lp.addQuantum f).deficit lp.turn
    · exact Or.inl hfit
    · refine Or.inr (LinkPort.chooses_other (t := t) (n := 2 * k + 1) ?_ fun lp' hturned ht' ha' hd' => ?_)
      · show turnOther (lp.addQuantum f).turn = _
        rw [LinkPort.addQuantum_turn, ht]
      · have hqueue : lp'.queue (turnCls t) = q :: rest :=
          (hturned.queue _).trans ((LinkPort.addQuantum_turned f lp).queue _ |>.trans hq)
        have hhead' : lp'.queue (turnCls lp'.turn) = q :: rest := by rw [ht', hqueue]
        refine (LinkPort.chooses_head hhead').mpr ?_
        rw [LinkPort.addQuantum_turn]
        refine ih ht' ha' hqueue ?_ hhead' (LinkPort.addQuantum_gains hw ha')
        rw [hd', LinkPort.deficit_passTurn, ← ht]
        rw [ht] at hgain ⊢
        omega

/-- A class with a telegram of at most 480 bytes is served, or the other one, within the turns of an offer. -/
theorem LinkPort.chooses_offer {lp : LinkPort} {q : QTel} {rest : List QTel} (hq : lp.queue (turnCls t) = q :: rest)
    (hlen : telLen q.tel ≤ 480) : lp.chooses f 63 := by
  have hfresh : ∀ lp' : LinkPort, Turned lp lp' → lp'.turn = t → lp'.quantumAdded = false → lp'.chooses f 31 :=
    fun lp' hturned ht ha => LinkPort.chooses_rounds hw 15 ht ha ((hturned.queue _).trans hq) (by omega)
  have hother : ∀ lp' : LinkPort, Turned lp lp' → lp'.turn = turnOther t → lp'.chooses f 32 :=
    fun lp' hturned ht => LinkPort.chooses_other ht fun lp'' h ht' ha' _ => hfresh lp'' (hturned.trans h) ht' ha'
  have hany : lp.chooses f 33 := by
    by_cases ht : lp.turn = t
    · have hhead : lp.queue (turnCls lp.turn) = q :: rest := by rw [ht, hq]
      refine (LinkPort.chooses_head hhead).mpr (Or.inr (hother _ ((LinkPort.addQuantum_turned f lp).trans
        (LinkPort.passTurn_turned _)) ?_))
      show turnOther (lp.addQuantum f).turn = turnOther t
      rw [LinkPort.addQuantum_turn, ht]
    · refine LinkPort.chooses_succ (hother lp (.refl lp) ?_)
      revert ht
      cases lp.turn <;> cases t <;> decide
  exact LinkPort.chooses_mono hany (by decide)

end

section
variable {f : Profile} {lp : LinkPort} (hp : 1 ≤ f.powerWeight) (hs : 1 ≤ f.serviceWeight)
  (hlen : ∀ q ∈ lp.queues.x2 ++ lp.queues.x3, q.tel.payload.length ≤ 464)
  (h : lp.queues.x2 ≠ [] ∨ lp.queues.x3 ≠ [])
include hp hs hlen h

theorem LinkPort.offer_chooses : lp.chooses f 63 := by
  have hw : ∀ t, 32 ≤ quantum f t := by
    intro t
    cases t
    · show 32 ≤ f.powerWeight * 32
      omega
    · show 32 ≤ f.serviceWeight * 32
      omega
  have hshort : ∀ q ∈ lp.queues.x2 ++ lp.queues.x3, telLen q.tel ≤ 480 := fun q hq => by
    have := hlen q hq
    unfold telLen
    omega
  rcases h with h | h
  · obtain ⟨q, rest, hq⟩ := List.exists_cons_of_ne_nil h
    refine LinkPort.chooses_offer (t := .power) hw hq (hshort q ?_)
    rw [hq]
    exact List.mem_append_left _ List.mem_cons_self
  · obtain ⟨q, rest, hq⟩ := List.exists_cons_of_ne_nil h
    refine LinkPort.chooses_offer (t := .service) hw hq (hshort q ?_)
    rw [hq]
    exact List.mem_append_right _ List.mem_cons_self

variable (h0 : lp.queues.x0 = []) (h1 : lp.queues.x1 = [])
include h0 h1

/-- The offer's choice does not depend on the turns left over. -/
theorem LinkPort.schedule_turns : lp.schedule f = lp.roundRobin f 63 :=
  (LinkPort.schedule_roundRobin f h0 h1 h).trans (LinkPort.roundRobin_succ (LinkPort.offer_chooses hp hs hlen h))

end

section
variable {lp : LinkPort} {q : QTel} {rest : List QTel}

theorem LinkPort.takeHead_powerLast (ht : lp.turn = .power) :
    lp.takeHead q [] = { lp with queues := { lp.queues with x2 := [] }, tx := .telegram q, defPower := 0
                                 turn := .service, quantumAdded := false } := by
  cases lp
  cases ht
  rfl

theorem LinkPort.takeHead_power (ht : lp.turn = .power) (hr : rest ≠ []) :
    lp.takeHead q rest = { lp with queues := { lp.queues with x2 := rest }, tx := .telegram q
                                   defPower := lp.defPower - telLen q.tel } := by
  obtain ⟨x, xs, rfl⟩ := List.exists_cons_of_ne_nil hr
  cases lp
  cases ht
  rfl

theorem LinkPort.takeHead_serviceLast (ht : lp.turn = .service) :
    lp.takeHead q [] = { lp with queues := { lp.queues with x3 := [] }, tx := .telegram q, defService := 0
                                 turn := .power, quantumAdded := false } := by
  cases lp
  cases ht
  rfl

theorem LinkPort.takeHead_service (ht : lp.turn = .service) (hr : rest ≠ []) :
    lp.takeHead q rest = { lp with queues := { lp.queues with x3 := rest }, tx := .telegram q
                                   defService := lp.defService - telLen q.tel } := by
  obtain ⟨x, xs, rfl⟩ := List.exists_cons_of_ne_nil hr
  cases lp
  cases ht
  rfl

end

theorem roundRobinChooses_holds : Says.RoundRobinChooses := by
  intro f lp hp hs hlen h0 h1 h r
  have hr : r = lp.roundRobin f 63 := LinkPort.schedule_turns hp hs hlen h h0 h1
  obtain ⟨lp1, q, rest, hturned, hadded, hq, htake⟩ := LinkPort.roundRobin_takes (LinkPort.offer_chooses hp hs hlen h)
  rw [hr, htake]
  have hqueues := hturned.queues
  have hsame : lp1.state = lp.state ∧ lp1.markDue = lp.markDue ∧ lp1.drops = lp.drops := by
    rw [hturned.same]
    exact ⟨rfl, rfl, rfl⟩
  refine ⟨q, rest, ?_⟩
  replace hq := (hturned.queue _).trans hq
  rw [← hqueues]
  cases ht : lp1.turn with
  | power =>
    rw [ht] at hq
    by_cases hr : rest = []
    · subst hr
      rw [LinkPort.takeHead_powerLast ht]
      exact ⟨rfl, Or.inl ⟨hq, rfl, fun _ => ⟨rfl, rfl, rfl⟩, fun k => absurd rfl k⟩, hsame⟩
    · rw [LinkPort.takeHead_power ht hr]
      exact ⟨rfl, Or.inl ⟨hq, rfl, fun k => absurd k hr, fun _ => ⟨ht, hadded⟩⟩, hsame⟩
  | service =>
    rw [ht] at hq
    by_cases hr : rest = []
    · subst hr
      rw [LinkPort.takeHead_serviceLast ht]
      exact ⟨rfl, Or.inr ⟨hq, rfl, fun _ => ⟨rfl, rfl, rfl⟩, fun k => absurd rfl k⟩, hsame⟩
    · rw [LinkPort.takeHead_service ht hr]
      exact ⟨rfl, Or.inr ⟨hq, rfl, fun k => absurd k hr, fun _ => ⟨ht, hadded⟩⟩, hsame⟩

/-! ## One turn (R65) -/

/-- The head is chosen when it fits the deficit. -/
theorem LinkPort.schedule_fits {f : Profile} {lp : LinkPort} {q : QTel} {rest : List QTel} (h0 : lp.queues.x0 = [])
    (h1 : lp.queues.x1 = []) (h : lp.queues.x2 ≠ [] ∨ lp.queues.x3 ≠ []) (hq : lp.queue (turnCls lp.turn) = q :: rest)
    (hfit : telLen q.tel ≤ (lp.addQuantum f).deficit (lp.addQuantum f).turn) :
    lp.schedule f = (lp.addQuantum f).takeHead q rest :=
  (LinkPort.schedule_roundRobin f h0 h1 h).trans (LinkPort.roundRobin_fits hq hfit)

section
variable {f : Profile} {lp : LinkPort} (hp : 1 ≤ f.powerWeight) (hs : 1 ≤ f.serviceWeight)
  (hlen : ∀ q ∈ lp.queues.x2 ++ lp.queues.x3, q.tel.payload.length ≤ 464)
  (h0 : lp.queues.x0 = []) (h1 : lp.queues.x1 = []) (h : lp.queues.x2 ≠ [] ∨ lp.queues.x3 ≠ [])
include hp hs hlen h0 h1 h

theorem LinkPort.schedule_turned {lp' : LinkPort} (ht : Turned lp lp') : lp'.schedule f = lp'.roundRobin f 63 := by
  have hq := ht.queues
  exact LinkPort.schedule_turns hp hs (by rwa [hq]) (by rwa [hq]) (by rwa [hq]) (by rwa [hq])

/-- The turn passes from an empty queue. -/
theorem LinkPort.schedule_empty (hq : lp.queue (turnCls lp.turn) = []) : lp.schedule f = lp.passTurn.schedule f := by
  rw [LinkPort.schedule_roundRobin f h0 h1 h, LinkPort.schedule_turned hp hs hlen h0 h1 h (LinkPort.passTurn_turned lp)]
  exact LinkPort.roundRobin_empty hq

variable {q : QTel} {rest : List QTel} (hq : lp.queue (turnCls lp.turn) = q :: rest)
include hq

/-- The deficit is kept and the turn passed when it does not. -/
theorem LinkPort.schedule_short (hfit : ¬ telLen q.tel ≤ (lp.addQuantum f).deficit (lp.addQuantum f).turn) :
    lp.schedule f = (lp.addQuantum f).passTurn.schedule f := by
  rw [LinkPort.schedule_roundRobin f h0 h1 h, LinkPort.schedule_turned hp hs hlen h0 h1 h
    ((LinkPort.addQuantum_turned f lp).trans (LinkPort.passTurn_turned _))]
  exact LinkPort.roundRobin_short hq hfit

end

/-- The deficit a turn works with, as one record. -/
theorem LinkPort.addQuantum_eq (f : Profile) (lp : LinkPort) :
    lp.addQuantum f =
      { lp.setDeficit lp.turn (lp.deficit lp.turn + if lp.quantumAdded then 0 else quantum f lp.turn) with
        quantumAdded := true } := by
  unfold LinkPort.addQuantum
  by_cases ha : lp.quantumAdded = true
  · rw [if_pos ha, if_pos ha, Nat.add_zero]
    cases ht : lp.turn
    all_goals
      cases lp
      cases ha
      cases ht
      rfl
  · rw [if_neg ha, if_neg ha]

section
variable {f : Profile} {lp : LinkPort}

theorem LinkPort.addQuantum_power (ht : lp.turn = .power) :
    lp.addQuantum f =
      { lp with defPower := lp.defPower + if lp.quantumAdded then 0 else f.powerWeight * 32, quantumAdded := true } := by
  rw [LinkPort.addQuantum_eq]
  cases lp
  cases ht
  rfl

theorem LinkPort.addQuantum_service (ht : lp.turn = .service) :
    lp.addQuantum f =
      { lp with defService := lp.defService + if lp.quantumAdded then 0 else f.serviceWeight * 32
                quantumAdded := true } := by
  rw [LinkPort.addQuantum_eq]
  cases lp
  cases ht
  rfl

end

theorem roundRobinTurn_holds : Says.RoundRobinTurn := by
  intro f lp hp hs hlen h0 h1 h quantum dp ds
  refine ⟨fun ht hq => ?_, fun ht hq => ?_, fun q rest ht hq => ?_, fun q rest ht hq => ?_⟩
  · refine (LinkPort.schedule_empty hp hs hlen h0 h1 h (by rw [ht]; exact hq)).trans ?_
    unfold LinkPort.passTurn
    rw [ht]
    rfl
  · refine (LinkPort.schedule_empty hp hs hlen h0 h1 h (by rw [ht]; exact hq)).trans ?_
    unfold LinkPort.passTurn
    rw [ht]
    rfl
  · intro len chosen
    have hadd := LinkPort.addQuantum_power (f := f) ht
    have hdef : (lp.addQuantum f).deficit (lp.addQuantum f).turn = dp := by
      rw [LinkPort.addQuantum_turn, ht, hadd]
      rfl
    have hhead : lp.queue (turnCls lp.turn) = q :: rest := by rw [ht]; exact hq
    have hturn : (lp.addQuantum f).turn = _ := (LinkPort.addQuantum_turn f lp).trans ht
    refine ⟨fun hfit hrest => ?_, fun hfit hrest => ?_, fun hshort => ?_⟩
    · subst hrest
      rw [LinkPort.schedule_fits h0 h1 h hhead (hdef.symm ▸ hfit), LinkPort.takeHead_powerLast hturn, hadd]
    · rw [LinkPort.schedule_fits h0 h1 h hhead (hdef.symm ▸ hfit), LinkPort.takeHead_power hturn hrest, hadd]
      rfl
    · rw [LinkPort.schedule_short hp hs hlen h0 h1 h hhead (by rw [hdef]; exact Nat.not_le.mpr hshort), hadd]
      unfold LinkPort.passTurn
      dsimp only
      rw [ht]
      rfl
  · intro len chosen
    have hadd := LinkPort.addQuantum_service (f := f) ht
    have hdef : (lp.addQuantum f).deficit (lp.addQuantum f).turn = ds := by
      rw [LinkPort.addQuantum_turn, ht, hadd]
      rfl
    have hhead : lp.queue (turnCls lp.turn) = q :: rest := by rw [ht]; exact hq
    have hturn : (lp.addQuantum f).turn = _ := (LinkPort.addQuantum_turn f lp).trans ht
    refine ⟨fun hfit hrest => ?_, fun hfit hrest => ?_, fun hshort => ?_⟩
    · subst hrest
      rw [LinkPort.schedule_fits h0 h1 h hhead (hdef.symm ▸ hfit), LinkPort.takeHead_serviceLast hturn, hadd]
    · rw [LinkPort.schedule_fits h0 h1 h hhead (hdef.symm ▸ hfit), LinkPort.takeHead_service hturn hrest, hadd]
      rfl
    · rw [LinkPort.schedule_short hp hs hlen h0 h1 h hhead (by rw [hdef]; exact Nat.not_le.mpr hshort), hadd]
      unfold LinkPort.passTurn
      dsimp only
      rw [ht]
      rfl

/-- Settles O22: the choice by class, and deficit round robin. -/
theorem scheduler : Obligations.Scheduler := by
  unfold Obligations.Scheduler
  exact ⟨scheduleByClass_holds, roundRobinChooses_holds, roundRobinTurn_holds⟩

end Sys2Proof.Machine
end


section
/-! PROOF. An originated telegram: its header, its copies and their admission (R29, R59 to R63). -/

namespace Sys2Proof.Machine

/-! ## Admission (R61, R62) -/

theorem Blocks.admission_iff (b : Blocks) (c : Cls) (n : Nat) :
    b.admission c n = true ↔
      if c = .safety then n ≤ b.free ∧ b.occ .safety + n ≤ b.profile.limit c
      else b.occ c + n ≤ b.profile.limit c ∧ n + (24 - b.occ .safety) ≤ b.free := by
  unfold Blocks.admission
  cases c with
  | safety =>
    rw [if_pos rfl]
    simp only [Bool.and_eq_true, decide_eq_true_iff]
  | control | power | service =>
    rw [if_neg (by decide)]
    simp only [Bool.and_eq_true, decide_eq_true_iff]
    rfl

/-! ## One operation of the relay block on one copy -/

/-- A dropped copy of class `c` at port `r`: counted, and told by notice `k` when SAFETY (R15, R63). -/
def Ev.dropsCopy (e : Ev) (k : Notice) (c : Cls) (r : Port) (w : Telegram) : Ev :=
  if c = .safety then
    (e.setPort r ((e.port r).addDrop c)).notice k (hiLo (portNum r) w.hdr.kind.toNat)
      (hiLo w.hdr.dstLo.toNat w.hdr.dstHi.toNat)
  else e.setPort r ((e.port r).addDrop c)

theorem Ev.loseUnsent_eq (e : Ev) (p : Port) (c : Cls) (t : Telegram) :
    e.loseUnsent p c t = e.dropsCopy .telegramLost c p t := rfl

theorem Ev.refuseCopy_eq (e : Ev) (p : Port) (c : Cls) (t : Telegram) :
    e.refuseCopy p c t = e.dropsCopy .telegramDropped c p t := rfl

/-- The record of an UP port that has taken a telegram, its scheduler asked (R61). -/
def LinkPort.taking (f : Profile) (lp : LinkPort) (q : QTel) : LinkPort :=
  if lp.tx = .idle then (lp.setQueue q.cls (lp.queue q.cls ++ [q])).schedule f
  else lp.setQueue q.cls (lp.queue q.cls ++ [q])

theorem Blocks.isUp_iff (b : Blocks) (p : Port) : b.isUp p = true ↔ (b.port p).state = .up := beq_iff_eq

theorem Blocks.isUp_false (b : Blocks) (p : Port) : b.isUp p = false ↔ (b.port p).state ≠ .up := beq_eq_false_iff_ne

theorem Ev.enqueue_up {e : Ev} {p : Port} (q : QTel) (h : (e.port p).state = .up) :
    e.enqueue p q = e.setPort p ((e.port p).taking e.profile q) := by
  unfold Ev.enqueue Ev.kick LinkPort.taking
  rw [Ev.port_setPort, Ev.setPort_setPort, Ev.setPort_profile]
  have hup : (e.setPort p ((e.port p).setQueue q.cls ((e.port p).queue q.cls ++ [q]))).isUp p = true := by
    rw [Blocks.isUp_iff]
    refine (congrArg LinkPort.state (Ev.port_setPort e p _)).trans h
  by_cases htx : (e.port p).tx = .idle
  · rw [if_pos htx]
    exact if_pos ⟨hup, htx⟩
  · rw [if_neg htx]
    exact if_neg fun k => htx k.2

/-! ## The copies of one telegram -/

section
variable {e : Ev} {c : Cls} {o : Option Nat} {x y : Copy}

theorem Ev.placeCopies_down (h : e.isUp x.port = false) :
    e.placeCopies c o [x] = (e.loseUnsent x.port c x.tel, { down := 1 }) := by
  unfold Ev.placeCopies
  simp only [List.filter, h]
  rfl

theorem Ev.placeCopies_up (h : e.isUp x.port = true) :
    e.placeCopies c o [x] =
      if e.toBlocks.admission c (cellsOf (telLen x.tel)) then
        (e.enqueue x.port { cls := c, tel := x.tel, origin := o }, { placed := 1 })
      else (e.refuseCopy x.port c x.tel, { refused := 1 }) := by
  unfold Ev.placeCopies
  simp only [List.filter, h]
  rfl

theorem Ev.placeCopies_both (hx : e.isUp x.port = true) (hy : e.isUp y.port = true) :
    e.placeCopies c o [x, y] =
      if e.toBlocks.admission c (cellsOf (telLen x.tel) + cellsOf (telLen y.tel)) then
        ((e.enqueue x.port { cls := c, tel := x.tel, origin := o }).enqueue y.port
          { cls := c, tel := y.tel, origin := o }, { placed := 2 })
      else ((e.refuseCopy x.port c x.tel).refuseCopy y.port c y.tel, { refused := 2 }) := by
  unfold Ev.placeCopies
  simp only [List.filter, hx, hy]
  rfl

theorem Ev.placeCopies_firstDown (hx : e.isUp x.port = false) (hy : e.isUp y.port = true) :
    e.placeCopies c o [x, y] =
      (((e.loseUnsent x.port c x.tel).placeCopies c o [y]).1,
       { ((e.loseUnsent x.port c x.tel).placeCopies c o [y]).2 with down := 1 }) := by
  rw [Ev.placeCopies_up (e := e.loseUnsent x.port c x.tel) ((Ev.loseUnsent_frame e _ _ _).isUp _ |>.trans hy)]
  unfold Ev.placeCopies
  simp only [List.filter, hx, hy]
  show (if (e.loseUnsent x.port c x.tel).toBlocks.admission c (cellsOf (telLen y.tel)) then _ else _) = _
  split
  · rfl
  · rfl

theorem Ev.placeCopies_secondDown (hx : e.isUp x.port = true) (hy : e.isUp y.port = false) :
    e.placeCopies c o [x, y] =
      (((e.loseUnsent y.port c y.tel).placeCopies c o [x]).1,
       { ((e.loseUnsent y.port c y.tel).placeCopies c o [x]).2 with down := 1 }) := by
  rw [Ev.placeCopies_up (e := e.loseUnsent y.port c y.tel) ((Ev.loseUnsent_frame e _ _ _).isUp _ |>.trans hx)]
  unfold Ev.placeCopies
  simp only [List.filter, hx, hy]
  show (if (e.loseUnsent y.port c y.tel).toBlocks.admission c (cellsOf (telLen x.tel)) then _ else _) = _
  split
  · rfl
  · rfl

theorem Ev.placeCopies_bothDown (hx : e.isUp x.port = false) (hy : e.isUp y.port = false) :
    e.placeCopies c o [x, y] =
      ((e.loseUnsent x.port c x.tel).loseUnsent y.port c y.tel, { down := 2 }) := by
  unfold Ev.placeCopies
  simp only [List.filter, hx, hy]
  rfl

end

theorem copyPlaced_holds : Says.CopyPlaced := by
  intro e c o p t cells safe fits x counted detail dest
  have hadmit : e.toBlocks.admission c (cellsOf (telLen t)) = true ↔ fits := Blocks.admission_iff _ _ _
  refine ⟨fun h => ?_, fun h hf => ?_, fun h hf => ?_⟩
  · exact Ev.placeCopies_down ((Blocks.isUp_false _ _).mpr h)
  · exact (Ev.placeCopies_up ((Blocks.isUp_iff _ _).mpr h)).trans (if_neg fun k => hf (hadmit.mp k))
  · intro lp
    refine (Ev.placeCopies_up ((Blocks.isUp_iff _ _).mpr h)).trans ((if_pos (hadmit.mpr hf)).trans ?_)
    exact congrArg (fun e' : Ev => (e', ({ placed := 1 } : Report))) (Ev.enqueue_up _ h)

theorem pairPlacedWhole_holds : Says.PairPlacedWhole := by
  intro e c o p t u p' cells safe fits queued dropped x
  have hadmit : e.toBlocks.admission c (cellsOf (telLen t) + cellsOf (telLen u)) = true ↔ fits :=
    Blocks.admission_iff _ _ _
  refine ⟨fun h h' => ⟨fun hf => ?_, fun hf => ?_⟩, fun h h' => ?_, fun h h' => ?_, fun h h' => ?_⟩
  · refine (Ev.placeCopies_both ((Blocks.isUp_iff _ _).mpr h) ((Blocks.isUp_iff _ _).mpr h')).trans
      ((if_pos (hadmit.mpr hf)).trans (congrArg (fun e' : Ev => (e', ({ placed := 2 } : Report))) ?_))
    dsimp only
    rw [Ev.enqueue_up _ h]
    have hother : (e.setPort p ((e.port p).taking e.profile { cls := c, tel := t, origin := o })).port p' = e.port p' :=
      Ev.port_setPort_other e p _
    rw [Ev.enqueue_up _ (by rw [hother]; exact h'), hother, Ev.setPort_profile]
    rfl
  · exact (Ev.placeCopies_both ((Blocks.isUp_iff _ _).mpr h) ((Blocks.isUp_iff _ _).mpr h')).trans
      (if_neg fun k => hf (hadmit.mp k))
  · exact Ev.placeCopies_firstDown ((Blocks.isUp_false _ _).mpr h) ((Blocks.isUp_iff _ _).mpr h')
  · exact Ev.placeCopies_secondDown ((Blocks.isUp_iff _ _).mpr h) ((Blocks.isUp_false _ _).mpr h')
  · exact Ev.placeCopies_bothDown ((Blocks.isUp_false _ _).mpr h) ((Blocks.isUp_false _ _).mpr h')

/-! ## The header and the copies of an origination (R59, R60) -/

theorem headerCompleted_holds : Says.HeaderCompleted := by
  intro b o hops table
  unfold Blocks.telegramFor Blocks.headerFor Blocks.liveGen Blocks.pos classModeByte
  rw [Nat.mul_comm (modeNum o.mode) 16]
  dsimp only [table]
  cases b.consist.table with
  | none => rfl
  | some tb => rfl

theorem originatedCopies_holds : Says.OriginatedCopies := by
  intro q n lo hi hq hn
  refine ⟨rfl, rfl, beq_iff_eq, rfl, rfl, ?_, rfl, rfl, rfl, rfl, rfl, beq_iff_eq⟩
  show (decide (lo ≤ q) && decide (q ≤ hi)) = true ↔ lo ≤ q ∧ q ≤ hi
  rw [Bool.and_eq_true, decide_eq_true_iff, decide_eq_true_iff]

/-- The port copies of a positioned mode, toward the lead first. -/
theorem Blocks.portCopies_eq (b : Blocks) (t : LiveTable) (o : Outgoing) :
    b.portCopies t o =
      ((towardHops t.pos o.mode o.lo.toNat).toList.map fun h => { port := t.toward, tel := b.telegramFor o (byte h) }) ++
      (awayHops t.pos t.entries.length o.mode o.lo.toNat o.hi.toNat).toList.map fun h =>
        { port := portOther t.toward, tel := b.telegramFor o (byte h) } := by
  unfold Blocks.portCopies
  cases towardHops t.pos o.mode o.lo.toNat <;> cases awayHops t.pos t.entries.length o.mode o.lo.toNat o.hi.toNat <;> rfl

theorem originates_holds : Says.Originates := by
  intro e o i
  refine ⟨fun h => ?_, fun tb h hm => ?_⟩
  · unfold Ev.originate
    rw [h]
  · intro k free o1 lo hi copy x
    have hfill : o.fillOpen e.origCount = o1 := by
      have hfree : free ↔ o.mode = .all ∨ o.mode = .lead := Iff.rfl
      unfold Outgoing.fillOpen
      cases hmode : o.mode with
      | neighbour => exact absurd hmode hm
      | position | range =>
        have hno : ¬ free := by
          rw [hfree, hmode]
          decide
        dsimp only [o1]
        rw [if_neg hno, if_neg hno]
      | all | lead =>
        have hyes : free := by
          rw [hfree, hmode]
          decide
        dsimp only [o1]
        rw [if_pos hyes, if_pos hyes, hmode]
    have horig : x = (({ e with origCount := e.origCount + 1 }.placeCopies o1.cls i (e.toBlocks.portCopies tb o1)).1,
        { report := ({ e with origCount := e.origCount + 1 }.placeCopies o1.cls i (e.toBlocks.portCopies tb o1)).2
          localTel := if localDue tb.pos o1.mode o1.lo.toNat o1.hi.toNat then
            some (e.toBlocks.telegramFor o1 (Config.localHops e.origCount)) else none }) := by
      show e.originate o i = _
      unfold Ev.originate
      rw [h]
      dsimp only
      rw [hfill]
    rw [horig, Blocks.portCopies_eq]
    exact ⟨rfl, rfl⟩

theorem neighbourSent_holds : Says.NeighbourSent := by
  intro e p k one
  refine ⟨fun o i => rfl, fun o hm hlo => ?_, fun o hm => ?_, fun kind payload => rfl⟩
  · intro y
    have hport : (if o.lo = 2 then Port.p2 else .p1) = p := by
      rw [hlo]
      cases p <;> decide
    unfold Ev.originateData
    rw [hm]
    dsimp only
    rw [hport]
    rfl
  · unfold Ev.originateData
    cases hmode : o.mode with
    | neighbour => exact absurd hmode hm
    | position | range | all | lead => rfl

/-- Settles O24: admission of one copy and of two, the header, the copies and their hops. -/
theorem copies : Obligations.Copies := by
  unfold Obligations.Copies
  exact ⟨copyPlaced_holds, pairPlacedWhole_holds, originatedCopies_holds, headerCompleted_holds, originates_holds,
    neighbourSent_holds⟩

end Sys2Proof.Machine
end


section
/-! PROOF. The coupler line ports: marks and failed frames (R2, R3, R7 to R11), the silence timer and the loss of a link (R8, R9, R13, R15), quality windows (R11, R12). -/

namespace Sys2Proof.Machine

/-- An event that replaces a port record. -/
theorem runEvent_setPort {s : State} {g : Ev → Ev} {p : Port} {lp : LinkPort}
    (h : g (Ev.start s.blk) = (Ev.start s.blk).setPort p lp) : runEvent g s = s.after (s.blk.withPort p lp) [] :=
  runEvent_leaving (e := Ev.start (s.blk.withPort p lp)) (h.trans (Ev.start_setPort s.blk p lp))

/-- An event that changes a port's link: the record, LINK_CHANGE and the LINK page (R16, R18). -/
theorem runEvent_changeLink {s : State} {g : Ev → Ev} {p : Port} {lp : LinkPort} {c : LinkCause}
    (h : g (Ev.start s.blk) = (Ev.start s.blk).changeLink p lp c) :
    runEvent g s = s.after (s.blk.withPort p lp)
      [(s.blk.withPort p lp).tells .linkChange (hiLo (portNum p) (linkStateNum lp.state))
        (hiLo (linkStateNum (s.blk.port p).state) (linkCauseNum c)), (s.blk.withPort p lp).shows .link] := by
  rw [runEvent_leaving h]
  cases p <;> rfl

/-! ## Failed frames (R2, R8, R11) -/

theorem LinkPort.frameError_eq (lp : LinkPort) :
    lp.frameError = { lp with winErr := if lp.winErr = 65535 then 65535 else lp.winErr + 1
                              settle := if lp.state = .settling then 0 else lp.settle } := by
  unfold LinkPort.frameError LinkPort.addError
  rw [satInc_eq]
  by_cases h : lp.state = .settling
  · rw [if_pos h, if_pos h]
  · rw [if_neg h, if_neg h]

theorem lineErrors_holds : Says.LineErrors := by
  intro p s c hc lp
  have hrow : exec c s = .next (runEvent (fun e => e.frameError p) s) := by
    rcases List.mem_cons.mp hc with rfl | hc
    · rfl
    · obtain rfl := List.mem_singleton.mp hc
      rfl
  refine hrow.trans (congrArg Host.Outcome.next (runEvent_setPort ?_))
  exact congrArg ((Ev.start s.blk).setPort p) (LinkPort.frameError_eq lp)

/-! ## Marks (R3, R7 to R10) -/

theorem byte_eq_iff (x : Byte) (n : Nat) (h : n < 256) : x = BitVec.ofNat 8 n ↔ x.toNat = n := by
  refine ⟨fun k => by rw [k, BitVec.toNat_ofNat, Nat.mod_eq_of_lt h], fun k => BitVec.eq_of_toNat_eq ?_⟩
  rw [k, BitVec.toNat_ofNat, Nat.mod_eq_of_lt h]

theorem Blocks.markValid_iff (b : Blocks) (p : Port) (i : Ident) (x : Byte) :
    b.markValid p i x = true ↔
      (x.toNat = 1 ∨ x.toNat = 2) ∧ ¬ (i = b.profile.identity ∧ i ≠ 0 ∧ x.toNat = portNum p) := by
  have hecho : (i = b.profile.identity ∧ b.profile.identity ≠ 0) ↔ i = b.profile.identity ∧ i ≠ 0 :=
    and_congr_right fun h => by rw [h]
  unfold Blocks.markValid
  rw [Bool.and_eq_true, Bool.or_eq_true, beq_iff_eq, beq_iff_eq, Bool.not_eq_true', ← Bool.not_eq_true, Bool.and_eq_true,
    Bool.and_eq_true, beq_iff_eq, beq_iff_eq, bne_iff_ne, hecho, and_assoc]
  exact and_congr (or_congr (byte_eq_iff x 1 (by decide)) (byte_eq_iff x 2 (by decide))) Iff.rfl

theorem Ev.markReceived_invalid {e : Ev} {p : Port} {i : Ident} {x : Byte} (h : ¬ e.toBlocks.markValid p i x = true) :
    e.markReceived p i x = e.frameError p := if_neg h

theorem markRejected_holds : Says.MarkRejected := by
  intro p i x s h
  refine congrArg Host.Outcome.next (congrArg s.finish (Ev.markReceived_invalid fun k => ?_))
  obtain ⟨hend, hecho⟩ := (Blocks.markValid_iff _ _ _ _).mp k
  exact h.elim (fun h => hend.elim h.1 h.2) hecho

section
variable {e : Ev} {p : Port} {i : Ident} {x : Byte} (hv : e.toBlocks.markValid p i x = true)
include hv

theorem Ev.markReceived_dead (h : (e.port p).state = .dead) :
    e.markReceived p i x = e.changeLink p ((e.port p).candidate i x e.timerNow) .firstMark := by
  refine (if_pos hv).trans ?_
  rw [h]

theorem Ev.markReceived_settling (h : (e.port p).state = .settling) : e.markReceived p i x = e.settlingMark p i x := by
  refine (if_pos hv).trans ?_
  rw [h]

theorem Ev.markReceived_up (h : (e.port p).state = .up) : e.markReceived p i x = e.upMark p i x := by
  refine (if_pos hv).trans ?_
  rw [h]

theorem Ev.markReceived_faulted (h : (e.port p).state = .faulted) : e.markReceived p i x = e := by
  refine (if_pos hv).trans ?_
  rw [h]

end

theorem markTaken_holds : Says.MarkTaken := by
  intro p i x s hx hecho lp now candidate run
  have hv : (Ev.start s.blk).toBlocks.markValid p i x = true := (Blocks.markValid_iff _ _ _ _).mpr ⟨hx, hecho⟩
  refine ⟨fun h => ?_, fun h hnew => ?_, fun h hi hn => ⟨fun h1 h19 => ?_, fun h19 => ?_⟩, fun h hi hn => ?_,
    fun h => ?_⟩
  · refine congrArg Host.Outcome.next ((runEvent_changeLink (Ev.markReceived_dead hv h)).trans ?_)
    rw [h]
    rfl
  · exact congrArg Host.Outcome.next (runEvent_setPort ((Ev.markReceived_settling hv h).trans (if_pos hnew)))
  · refine congrArg Host.Outcome.next (runEvent_setPort ((Ev.markReceived_settling hv h).trans
      ((if_neg ?_).trans (if_pos h19))))
    rintro (k | k | k)
    · exact absurd h1 (by rw [show lp.settle = 0 from k]; decide)
    · exact k hi
    · exact k hn
  · refine congrArg Host.Outcome.next (runEvent_doing ((Ev.markReceived_settling hv h).trans
      ((if_neg ?_).trans ((if_neg (Nat.not_lt.mpr h19)).trans ?_))))
    · rintro (k | k | k)
      · exact absurd h19 (by rw [show lp.settle = 0 from k]; decide)
      · exact k hi
      · exact k hn
    · unfold Ev.changeLink
      rw [show ((Ev.start s.blk).port p).state = .settling from h, Ev.start_setPort]
      rfl
  · exact congrArg Host.Outcome.next (runEvent_setPort ((Ev.markReceived_up hv h).trans (if_pos ⟨hi, hn⟩)))
  · exact congrArg Host.Outcome.next (runEvent_stays (Ev.markReceived_faulted hv h))

/-- The port that has left UP, once the consist block has been told. -/
theorem Ev.leaveUp_state (e : Ev) (p : Port) (st : LinkState) (c : LinkCause) : ((e.leaveUp p st c).port p).state = st := by
  unfold Ev.leaveUp
  rw [(Ev.consistPortLost_car _ p).state, (Ev.disposeTraffic_frame _ p).state]
  cases p <;> rfl

theorem newNeighbour_holds : Says.NewNeighbour := by
  intro p i x s hx hecho hup hnew
  have hv : (Ev.start s.blk).toBlocks.markValid p i x = true := (Blocks.markValid_iff _ _ _ _).mpr ⟨hx, hecho⟩
  refine congrArg Host.Outcome.next (runEvent_doing ((Ev.markReceived_up hv hup).trans ((if_neg ?_).trans ?_)))
  · rintro ⟨hi, hn⟩
    exact hnew.elim (fun k => k hi) fun k => k hn
  · have htick : ((Ev.start s.blk).leaveUp p .dead .newNeighbour).timerNow = .running s.blk.tick :=
      congrArg Timer.running (Ev.leaveUp_car (Ev.start s.blk) p .dead .newNeighbour).tick
    have hdead := Ev.leaveUp_state (Ev.start s.blk) p .dead .newNeighbour
    unfold Ev.changeLink LinkPort.candidate
    dsimp only
    rw [htick, hdead]
    rfl

/-- Settles O25: failed frames, rejected marks, and valid marks by the state of the port. -/
theorem marksAndErrors : Obligations.MarksAndErrors := by
  unfold Obligations.MarksAndErrors
  exact ⟨lineErrors_holds, markRejected_holds, markTaken_holds, newNeighbour_holds⟩

/-! ## Quality windows (R11, R12) -/

/-- Settles O27: the row, and the grading of a closed window by the state of its port. -/
theorem qualityWindows : Obligations.QualityWindows := by
  unfold Obligations.QualityWindows
  refine ⟨fun s => rfl, fun e p => ?_⟩
  intro lp closed bad r
  have hclosed : (e.setPort p closed).port p = closed := Ev.port_setPort e p closed
  have hprof : (e.setPort p closed).profile = e.profile := Ev.setPort_profile e p closed
  have hset : ∀ x, (e.setPort p closed).setPort p x = e.setPort p x := fun x => Ev.setPort_setPort e p closed x
  have hgrade : r = (e.setPort p closed).grade p lp.winErr := rfl
  rw [hgrade]
  unfold Ev.grade
  rw [hclosed, hprof]
  dsimp only
  simp only [hset]
  refine ⟨fun h => ?_, fun h => ⟨fun hb => ?_, fun hb h2 => ?_, fun hb h2 => ?_⟩, fun h =>
    ⟨fun hw => ?_, fun hw h9 => ?_, fun hw h9 => ?_⟩⟩
  · rcases h with h | h
    all_goals rw [show closed.state = _ from h]
  · rw [show closed.state = _ from h]
    exact if_neg hb
  · rw [show closed.state = _ from h]
    exact (if_pos hb).trans (if_pos h2)
  · rw [show closed.state = _ from h]
    exact (if_pos hb).trans (if_neg (Nat.not_lt.mpr h2))
  · rw [show closed.state = _ from h]
    exact if_neg hw
  · rw [show closed.state = _ from h]
    exact (if_pos hw).trans (if_pos h9)
  · rw [show closed.state = _ from h]
    refine (if_pos hw).trans ((if_neg (Nat.not_lt.mpr h9)).trans ?_)
    unfold Ev.resettle Ev.changeLink
    rw [hclosed, hset, show closed.state = _ from h]
    cases p <;> rfl

end Sys2Proof.Machine
end


section
/-! PROOF. The silence timer (R8, R9, R10), and what leaving UP entails (R13, R15, R16, R71, R74). -/

namespace Sys2Proof.Machine

/-! ## The silence timer -/

theorem Ev.silenceExpiry_idle {e : Ev} {p : Port}
    (h : (e.port p).silence = .stopped ∨ (e.port p).state = .dead ∨ (e.port p).state = .faulted) :
    e.silenceExpiry p = e := by
  unfold Ev.silenceExpiry
  dsimp only
  rcases h with h | h | h
  · rw [h]
  · rw [h]
    cases (e.port p).silence <;> rfl
  · rw [h]
    cases (e.port p).silence <;> rfl

section
variable {e : Ev} {p : Port} {since : Word} (hs : (e.port p).silence = .running since)
include hs

theorem Ev.silenceExpiry_settling (h : (e.port p).state = .settling) :
    e.silenceExpiry p = e.changeLink p { e.port p with state := .dead, nbrId := 0, nbrEnd := 0, settle := 0
                                                       silence := .stopped } .silence := by
  unfold Ev.silenceExpiry
  dsimp only
  rw [hs, h]

theorem Ev.silenceExpiry_up (h : (e.port p).state = .up) : e.silenceExpiry p = e.leaveUp p .dead .silence := by
  unfold Ev.silenceExpiry
  dsimp only
  rw [hs, h]

end

theorem silenceTimer_holds : Says.SilenceTimer := by
  intro p s lp
  refine ⟨fun h => congrArg Host.Outcome.next (runEvent_stays (Ev.silenceExpiry_idle h)), fun since hs =>
    ⟨fun h => congrArg Host.Outcome.next ?_, fun h =>
      congrArg Host.Outcome.next (runEvent_doing (Ev.silenceExpiry_up hs h))⟩⟩
  refine (runEvent_changeLink (Ev.silenceExpiry_settling hs h)).trans ?_
  rw [h]
  rfl

/-! ## One lost telegram (R15, R71, R74) -/

/-- The telling of a lost telegram: a notice when SAFETY. -/
def lossTold (p : Port) (tick : Word) (q : QTel) : List Effect :=
  if q.cls = .safety then [.notice .telegramLost tick
    (hiLo (portNum p) q.tel.hdr.kind.toNat) (hiLo q.tel.hdr.dstLo.toNat q.tel.hdr.dstHi.toNat)] else []

/-- The waiting SENDs and the effects after a telegram of port `p` is lost: told when SAFETY, counted lost at its
SEND, which completes when it was its last copy. -/
def lossStep (p : Port) (tick : Word) (a : List WaitSend × List Effect) (q : QTel) : List WaitSend × List Effect :=
  match q.origin with
  | none => (a.1, a.2 ++ lossTold p tick q)
  | some i =>
    match a.1.dropWhile fun w => decide (w.id ≠ i) with
    | [] => (a.1, a.2 ++ lossTold p tick q)
    | v :: rest =>
      if v.left ≤ 1 then
        ((a.1.takeWhile fun w => decide (w.id ≠ i)) ++ rest, a.2 ++ lossTold p tick q ++ v.slot.toList.map fun n =>
          .complete n v.seq (hiLo v.sent (v.lost + 1)) (flagWord v.localCopy))
      else ((a.1.takeWhile fun w => decide (w.id ≠ i)) ++ { v with left := v.left - 1, lost := v.lost + 1 } :: rest,
        a.2 ++ lossTold p tick q)

section
variable {p : Port} {tick : Word} {a : List WaitSend × List Effect} {q : QTel} {i : Nat} {v : WaitSend}
  {rest : List WaitSend}

theorem lossStep_plain (h : q.origin = none) : lossStep p tick a q = (a.1, a.2 ++ lossTold p tick q) := by
  unfold lossStep
  rw [h]

theorem lossStep_gone (h : q.origin = some i) (hd : a.1.dropWhile (fun w => decide (w.id ≠ i)) = []) :
    lossStep p tick a q = (a.1, a.2 ++ lossTold p tick q) := by
  unfold lossStep
  rw [h]
  dsimp only
  rw [hd]

theorem lossStep_found (h : q.origin = some i) (hd : a.1.dropWhile (fun w => decide (w.id ≠ i)) = v :: rest) :
    lossStep p tick a q =
      if v.left ≤ 1 then
        ((a.1.takeWhile fun w => decide (w.id ≠ i)) ++ rest, a.2 ++ lossTold p tick q ++ v.slot.toList.map fun n =>
          .complete n v.seq (hiLo v.sent (v.lost + 1)) (flagWord v.localCopy))
      else ((a.1.takeWhile fun w => decide (w.id ≠ i)) ++ { v with left := v.left - 1, lost := v.lost + 1 } :: rest,
        a.2 ++ lossTold p tick q) := by
  unfold lossStep
  rw [h]
  dsimp only
  rw [hd]

end

/-- The drop counts after a telegram is lost. -/
def dropStep (d : Quad Word) (q : QTel) : Quad Word := d.set (clsIdx q.cls) (satInc (d.get (clsIdx q.cls)))

/-- An event with other waiting SENDs, effects and drop counts of port `p`. -/
def Ev.afterLoss (e : Ev) (p : Port) (w : List WaitSend) (xs : List Effect) (d : Quad Word) : Ev :=
  { e with relay := { e.relay with waiting := w }, effects := xs }.setPort p { e.port p with drops := d }

theorem Ev.settleCopy_none {e : Ev} {i : Nat} {sent : Bool} (h : e.relay.waiting.dropWhile (fun w => decide (w.id ≠ i)) = []) :
    e.settleCopy (some i) sent = e := by
  have hnone : findSend i e.relay.waiting = none := by
    refine List.find?_eq_none.mpr fun w hw => ?_
    have := List.dropWhile_eq_nil_iff.mp h w hw
    simpa using this
  unfold Ev.settleCopy
  dsimp only
  rw [hnone]

theorem Ev.settleCopy_some {e : Ev} {i : Nat} {v : WaitSend} {rest : List WaitSend}
    (h : e.relay.waiting.dropWhile (fun w => decide (w.id ≠ i)) = v :: rest) :
    v.id = i ∧ (∀ w ∈ e.relay.waiting.takeWhile (fun w => decide (w.id ≠ i)), w.id ≠ v.id) ∧
      e.relay.waiting = e.relay.waiting.takeWhile (fun w => decide (w.id ≠ i)) ++ v :: rest := by
  have hv : v.id = i := by
    have hhead := List.head_dropWhile_not (fun w : WaitSend => decide (w.id ≠ i)) (l := e.relay.waiting) (by
      rw [h]
      exact List.cons_ne_nil _ _)
    simp only [h, List.head_cons] at hhead
    simpa using hhead
  refine ⟨hv, fun w hw => ?_, ?_⟩
  · have := List.mem_takeWhile_imp hw
    rw [hv]
    simpa using this
  · rw [← h]
    exact List.takeWhile_append_dropWhile.symm

/-- A lost telegram counted and told, before its SEND hears of it. -/
theorem Ev.loseUnsent_afterLoss (e : Ev) (p : Port) (q : QTel) :
    e.loseUnsent p q.cls q.tel =
      e.afterLoss p e.relay.waiting (e.effects ++ lossTold p e.tick q) (dropStep (e.port p).drops q) := by
  unfold Ev.loseUnsent lossTold
  by_cases h : q.cls = .safety
  · rw [if_pos h, if_pos h]
    cases p <;> rfl
  · rw [if_neg h, if_neg h, List.append_nil]
    cases p <;> rfl

theorem Ev.afterLoss_waiting (e : Ev) (p : Port) (w : List WaitSend) (xs : List Effect) (d : Quad Word) :
    (e.afterLoss p w xs d).relay.waiting = w := by
  cases p <;> rfl

theorem Ev.loseCopy_eq (e : Ev) (p : Port) (q : QTel) :
    e.loseCopy p q = e.afterLoss p (lossStep p e.tick (e.relay.waiting, e.effects) q).1
      (lossStep p e.tick (e.relay.waiting, e.effects) q).2 (dropStep (e.port p).drops q) := by
  have hsplit : e.loseCopy p q = (e.loseUnsent p q.cls q.tel).settleCopy q.origin false := rfl
  rw [hsplit, Ev.loseUnsent_afterLoss]
  have hwait := Ev.afterLoss_waiting e p e.relay.waiting (e.effects ++ lossTold p e.tick q) (dropStep (e.port p).drops q)
  cases ho : q.origin with
  | none =>
    rw [lossStep_plain ho]
    rfl
  | some i =>
    cases hd : e.relay.waiting.dropWhile (fun w => decide (w.id ≠ i)) with
    | nil =>
      rw [lossStep_gone ho hd]
      exact Ev.settleCopy_none (by rw [hwait]; exact hd)
    | cons v rest =>
      obtain ⟨hv, hbefore, hlist⟩ := Ev.settleCopy_some hd
      subst hv
      rw [lossStep_found ho hd]
      refine (Ev.settleCopy_found hbefore (hwait.trans hlist) false).trans ?_
      have hleft : (v.settle false).left = 0 ↔ v.left ≤ 1 := Nat.sub_eq_zero_iff_le
      dsimp only
      by_cases hl : v.left ≤ 1
      · rw [if_pos (hleft.mpr hl), if_pos (hleft.mpr hl), if_pos hl]
        unfold Ev.complete
        cases v.slot with
        | none =>
          rw [Option.toList_none, List.map_nil, List.append_nil]
          cases p <;> rfl
        | some n => cases p <;> rfl
      · rw [if_neg (fun k => hl (hleft.mp k)), if_neg (fun k => hl (hleft.mp k)), if_neg hl]
        cases p <;> rfl

theorem Ev.loseAll_eq (p : Port) (qs : List QTel) (e : Ev) :
    e.loseAll p qs = e.afterLoss p (qs.foldl (lossStep p e.tick) (e.relay.waiting, e.effects)).1
      (qs.foldl (lossStep p e.tick) (e.relay.waiting, e.effects)).2 (qs.foldl dropStep (e.port p).drops) := by
  induction qs generalizing e with
  | nil => cases p <;> rfl
  | cons q qs ih =>
    refine (ih (e.loseCopy p q)).trans ?_
    rw [Ev.loseCopy_eq]
    cases p <;> rfl

/-- The effects so far stand before those of the losses. -/
theorem lossStep_append (p : Port) (tick : Word) (w : List WaitSend) (xs ys : List Effect) (q : QTel) :
    lossStep p tick (w, xs ++ ys) q = ((lossStep p tick (w, ys) q).1, xs ++ (lossStep p tick (w, ys) q).2) := by
  unfold lossStep
  dsimp only
  split
  · rw [List.append_assoc]
  · split
    · rw [List.append_assoc]
    · split
      · simp only [List.append_assoc]
      · rw [List.append_assoc]

theorem foldl_lossStep_append (p : Port) (tick : Word) (xs : List Effect) (qs : List QTel) (w : List WaitSend)
    (ys : List Effect) :
    qs.foldl (lossStep p tick) (w, xs ++ ys) =
      ((qs.foldl (lossStep p tick) (w, ys)).1, xs ++ (qs.foldl (lossStep p tick) (w, ys)).2) := by
  induction qs generalizing w ys with
  | nil => rfl
  | cons q qs ih =>
    rw [List.foldl_cons, lossStep_append]
    exact ih _ _

/-! ## The drop counts (R15) -/

theorem satInc_toNat (w : Word) : (satInc w).toNat = min 65535 (w.toNat + 1) := by
  have hlt := w.isLt
  rw [satInc_eq]
  by_cases h : w = 65535
  · rw [if_pos h, h]
    rfl
  · have hne : w.toNat ≠ 65535 := fun k => h (BitVec.eq_of_toNat_eq k)
    rw [if_neg h, BitVec.toNat_add, show (1 : Word).toNat = 1 from rfl]
    omega

theorem foldl_dropStep (qs : List QTel) (d : Quad Word) (k : Cls) :
    ((qs.foldl dropStep d).get (clsIdx k)).toNat =
      min 65535 ((d.get (clsIdx k)).toNat + (qs.filter fun q => q.cls = k).length) := by
  induction qs generalizing d with
  | nil =>
    have hlt := (d.get (clsIdx k)).isLt
    show (d.get (clsIdx k)).toNat = min 65535 ((d.get (clsIdx k)).toNat + 0)
    omega
  | cons q qs ih =>
    rw [List.foldl_cons, ih, dropStep, Quad.get_set]
    by_cases h : q.cls = k
    · rw [if_pos (by rw [h]), List.filter_cons_of_pos (by simpa using h), List.length_cons, satInc_toNat, h]
      omega
    · rw [if_neg fun j => h (clsIdx_inj j.symm), List.filter_cons_of_neg (by simpa using h)]

/-! ## Leaving UP -/

/-- LINK_CHANGE of a port that changes to `st` (R16). -/
def Ev.linkTold (e : Ev) (p : Port) (st : LinkState) (c : LinkCause) : Effect :=
  .notice .linkChange e.tick (hiLo (portNum p) (linkStateNum st)) (hiLo (linkStateNum (e.port p).state) (linkCauseNum c))

/-- Leaving UP: the link record, the notice and the page, and the losses one after another. -/
theorem Ev.leaveUp_eq (e : Ev) (p : Port) (st : LinkState) (c : LinkCause) :
    let settled := (e.port p).traffic.foldl (lossStep p e.tick) (e.relay.waiting, [])
    e.leaveUp p st c =
      ({ e with
          relay := { e.relay with waiting := settled.1 }
          effects := e.effects ++ [e.linkTold p st c] ++ settled.2
          asks := .link :: e.asks }.setPort p { e.port p with
            state := st, nbrId := 0, nbrEnd := 0, silence := .stopped, queues := Quad.const []
            defPower := 0, defService := 0, turn := .power, quantumAdded := false, tx := cutTransmit (e.port p).tx
            drops := (e.port p).traffic.foldl dropStep (e.port p).drops }).consistPortLost p := by
  intro settled
  refine congrArg (fun x : Ev => x.consistPortLost p) ((Ev.loseAll_eq p _ _).trans ?_)
  have happend := foldl_lossStep_append p e.tick (e.effects ++ [e.linkTold p st c])
    (e.port p).traffic e.relay.waiting []
  rw [List.append_nil] at happend
  cases p with
  | p1 =>
    show Ev.afterLoss _ .p1 ((e.port .p1).traffic.foldl (lossStep .p1 e.tick) (e.relay.waiting, e.effects ++ [e.linkTold .p1 st c])).1
      ((e.port .p1).traffic.foldl (lossStep .p1 e.tick) (e.relay.waiting, e.effects ++ [e.linkTold .p1 st c])).2
      ((e.port .p1).traffic.foldl dropStep (e.port .p1).drops) = _
    rw [happend]
    rfl
  | p2 =>
    show Ev.afterLoss _ .p2 ((e.port .p2).traffic.foldl (lossStep .p2 e.tick) (e.relay.waiting, e.effects ++ [e.linkTold .p2 st c])).1
      ((e.port .p2).traffic.foldl (lossStep .p2 e.tick) (e.relay.waiting, e.effects ++ [e.linkTold .p2 st c])).2
      ((e.port .p2).traffic.foldl dropStep (e.port .p2).drops) = _
    rw [happend]
    rfl

theorem leaveUp_holds : Says.LeaveUp := by
  intro e p st c lp inc sending traffic lost settled drops e1
  have hdrops : drops = traffic.foldl dropStep lp.drops := by
    refine congrArg (fun f => traffic.foldl f lp.drops) (funext fun d => funext fun q => ?_)
    exact congrArg (d.set (clsIdx q.cls)) (satInc_eq _).symm
  have hsettled : settled = traffic.foldl (lossStep p e.tick) (e.relay.waiting, []) := rfl
  have htraffic : traffic = lp.traffic := by
    refine congrArg (fun l => lp.queues.x0 ++ lp.queues.x1 ++ lp.queues.x2 ++ lp.queues.x3 ++ l) ?_
    dsimp only [sending]
    cases lp.tx <;> rfl
  refine ⟨(Ev.leaveUp_eq e p st c).trans ?_, fun k => ?_⟩
  · dsimp only [e1]
    rw [hsettled, hdrops, htraffic]
    obtain ⟨tx, htx⟩ : ∃ tx, (e.port p).tx = tx := ⟨_, rfl⟩
    rw [htx]
    cases tx <;> rfl
  · rw [hdrops]
    exact foldl_dropStep traffic lp.drops k

/-- Settles O26: the silence timer, and what leaving UP entails. -/
theorem linkLost : Obligations.LinkLost := by
  unfold Obligations.LinkLost
  exact ⟨silenceTimer_holds, leaveUp_holds⟩

end Sys2Proof.Machine
end


section
/-! PROOF. A sweep at the lead (R22, R27, R30, R31, R35, R38), and the lead contest (R40). -/

namespace Sys2Proof.Machine

/-! ## Numbers (R22, R29, R30) -/

theorem nextNumber_eq (g : Byte) : nextNumber g = if g = 255 then 1 else g + 1 := rfl

theorem nextNumber_ne_zero (g : Byte) : nextNumber g ≠ 0 := by
  revert g
  decide

theorem newerNumber_iff (a b : Byte) :
    newerNumber b a = true ↔ 1 ≤ (b.toNat + 255 - a.toNat) % 255 ∧ (b.toNat + 255 - a.toNat) % 255 ≤ 127 := by
  unfold newerNumber
  rw [Bool.and_eq_true, decide_eq_true_iff, decide_eq_true_iff]

/-! ## Install, attempts and ends (R22, R27, R30, R31, R38) -/

theorem installAtLead_holds : Says.InstallAtLead := by
  intro e cab xs c g t r
  exact ⟨nextNumber_ne_zero c.lastGen, rfl, rfl, rfl⟩

/-- The payload of a SWEEP with one entry. -/
theorem sweepPayload_one (i : Ident) (n : Byte) (x : SweepEntry) :
    sweepPayload { leadId := i, number := n, entries := [x] } = identBytes i ++ [n, 1] ++ entryBytes x := by
  unfold sweepPayload
  rw [List.flatMap_cons, List.flatMap_nil, List.append_nil]
  rfl

section
variable {e : Ev} {cab : Port}

/-- An attempt over a train-ward port that is UP. -/
theorem Ev.beginAttempt_sends (k : Nat) (h : e.isUp (portOther cab) = true) :
    e.beginAttempt cab k =
      (e.setConsist { e.consist with
        sweepCounter := nextNumber e.consist.sweepCounter, settleT := .stopped, attemptLead := e.profile.identity
        sweep := .awaitReturn k, returnT := e.timerNow, periodT := .stopped }).sendFamily (portOther cab) .sweep
        (identBytes e.profile.identity ++ [nextNumber e.consist.sweepCounter, 1] ++
          entryBytes (e.toBlocks.ownEntry cab)) := by
  refine (if_pos h).trans ?_
  unfold Ev.sendSweep
  rw [sweepPayload_one]
  rfl

/-- An attempt over a train-ward port that is not UP. -/
theorem Ev.beginAttempt_alone (k : Nat) (h : e.isUp (portOther cab) = false) :
    e.beginAttempt cab k =
      (e.setConsist { e.consist with
        sweepCounter := nextNumber e.consist.sweepCounter, settleT := .stopped }).formAlone cab :=
  if_neg (by rw [h]; decide)

end

theorem sweepAttempt_holds : Says.SweepAttempt := by
  intro e cab k c num f entry
  exact ⟨fun h => Ev.beginAttempt_sends k h, fun h => Ev.beginAttempt_alone k h⟩

theorem attemptEnds_holds : Says.AttemptEnds := by
  intro e cab why pos k hs h1 h3
  refine ⟨fun h => if_pos h, fun h => if_neg (by omega), ?_⟩
  unfold Ev.failSweep
  rw [hs]
  rfl

theorem outcomeDetails_failed (why : FailReason) (pos : Nat) :
    outcomeDetails (.failed why pos) = (0x0200 + word (failReasonNum why), word pos) := by
  cases why <;> rfl

theorem sweepEnds_holds : Says.SweepEnds := by
  intro e o c d e1
  have hd : d = outcomeDetails o := by
    cases o with
    | absent => rfl
    | formed g n => rfl
    | failed why pos => exact (outcomeDetails_failed why pos).symm
  refine ⟨fun h => ?_, fun n h => ?_⟩
  · unfold Ev.endSweep
    rw [show e.consist.sweepSlot = none from h]
    rfl
  · unfold Ev.endSweep
    rw [show e.consist.sweepSlot = some n from h, hd]
    rfl

/-- Settles O28: the install, the attempt, its ends and those of the sweep. -/
theorem sweepAtLead : Obligations.SweepAtLead := by
  unfold Obligations.SweepAtLead
  exact ⟨installAtLead_holds, sweepAttempt_holds, attemptEnds_holds, sweepEnds_holds⟩

/-! ## The lead contest (R40) -/

section
variable {c : Consist} {own y : Ident} {num : Byte} (hy : y ≠ 0)
include hy

theorem contestOf_carrying {k : Carry} (hc : c.carry = some k) :
    contestOf c own y num =
      if y < k.leadId then .abandons
      else if y = k.leadId then (if newerNumber num k.number then .passes else .discards) else .discards := by
  unfold contestOf
  rw [if_neg hy, hc]

theorem contestOf_lead (hc : c.carry = none) (hr : c.role = .lead) :
    contestOf c own y num = if y < own then .abandons else .discards := by
  unfold contestOf
  rw [if_neg hy, hc, hr]

theorem contestOf_follower {t : LiveTable} (hc : c.carry = none) (hr : c.role = .follower) (ht : c.table = some t) :
    contestOf c own y num = if y < t.leadId then .abandons else if y = t.leadId then .passes else .discards := by
  unfold contestOf
  rw [if_neg hy, hc, hr, ht]

theorem contestOf_alone (hc : c.carry = none) (hr : c.role = .alone) : contestOf c own y num = .passes := by
  unfold contestOf
  rw [if_neg hy, hc, hr]

end

theorem ident_not_lt_of_lt {a b : Ident} (h : a < b) : ¬ b < a ∧ b ≠ a := by
  rw [BitVec.lt_def] at h ⊢
  refine ⟨by omega, fun k => ?_⟩
  rw [k] at h
  omega

theorem leadContest_holds : Says.LeadContest := by
  intro c own y num
  refine ⟨fun hy => if_pos hy, fun hy => ⟨fun k hc => ⟨fun h => ?_, fun h => ?_, fun h => ?_⟩, fun hc =>
    ⟨fun hr => contestOf_lead hy hc hr, fun t hr ht => ⟨fun h => ?_, fun h => ?_, fun h => ?_⟩,
     fun hr => contestOf_alone hy hc hr⟩⟩⟩
  · exact (contestOf_carrying hy hc).trans (if_pos h)
  · obtain ⟨h1, h2⟩ := ident_not_lt_of_lt h
    exact (contestOf_carrying hy hc).trans ((if_neg h1).trans (if_neg h2))
  · refine (contestOf_carrying hy hc).trans ((if_neg (h ▸ BitVec.lt_irrefl _)).trans ((if_pos h).trans ?_))
    exact ite_congr (propext (newerNumber_iff _ _)) (fun _ => rfl) fun _ => rfl
  · exact (contestOf_follower hy hc hr ht).trans (if_pos h)
  · exact (contestOf_follower hy hc hr ht).trans ((if_neg (h ▸ BitVec.lt_irrefl _)).trans (if_pos h))
  · obtain ⟨h1, h2⟩ := ident_not_lt_of_lt h
    exact (contestOf_follower hy hc hr ht).trans ((if_neg h1).trans (if_neg h2))

theorem Ev.abandonLead_lead {e : Ev} (y : Ident) (h : e.consist.role = .lead) :
    e.abandonLead y = ((e.stopSweep .contestLost).leaveLead).notice .leadContestLost (hiHalf y) (loHalf y) := by
  unfold Ev.abandonLead
  rw [h]

theorem Ev.abandonLead_follower {e : Ev} {t : LiveTable} (y : Ident) (h : e.consist.role = .follower)
    (ht : e.consist.table = some t) : e.abandonLead y = e.loseTable .contest t := by
  unfold Ev.abandonLead
  rw [h, ht]

theorem Ev.abandonLead_alone {e : Ev} (y : Ident) (h : e.consist.role = .alone) : e.abandonLead y = e.endCarry := by
  unfold Ev.abandonLead
  rw [h]

theorem leadAbandoned_holds : Says.LeadAbandoned := by
  intro e y c
  refine ⟨fun h => (Ev.abandonLead_lead y h).trans ?_, fun t h ht => Ev.abandonLead_follower y h ht, fun h =>
    (Ev.abandonLead_alone y h).trans ?_, rfl, List.append_assoc e.effects _ _, rfl⟩
  · unfold Ev.stopSweep
    dsimp only [c]
    cases e.consist.sweep <;> rfl
  · unfold Ev.endCarry
    refine congrArg e.setConsist ?_
    have hnot : ¬ e.consist.endCarry.role = .follower := by
      rw [show e.consist.endCarry.role = .alone from h]
      decide
    rw [if_neg hnot]
    rfl

/-- Settles O29: the comparison, and what abandoning a lead entails. -/
theorem contest : Obligations.Contest := by
  unfold Obligations.Contest
  exact ⟨leadContest_holds, leadAbandoned_holds⟩

end Sys2Proof.Machine
end


section
/-! SUPPORT. A telegram at its arrival, by what the checks of R14 and R52 to R57 find; and the payloads of the sweep family, read and written (11.6). -/

namespace Sys2Proof.Machine

/-! ## Arrival -/

section
variable {e : Ev} {p : Port} {t : Telegram} {k : Sane}

theorem Ev.arrive_heard (h : e.toBlocks.hears p t k) : e.arrive p t = e.arriveSane p k t := by
  obtain ⟨hup, hsane⟩ := h
  refine (if_pos hup).trans ?_
  rw [hsane]

/-- A sweep-family telegram: its consumer, then delivery. -/
theorem Ev.arrive_family (h : e.toBlocks.hears p t k) (hf : sweepFamily k.kind = true) :
    e.arrive p t = (e.takeFamily p k.kind t.payload).offer (portNum p) t :=
  (Ev.arrive_heard h).trans (if_pos hf)

theorem Blocks.genOk_table {b : Blocks} {tb : LiveTable} (ht : b.consist.table = some tb) (g : Byte) :
    b.genOk k g = (g == tb.gen) := by
  unfold Blocks.genOk
  rw [ht]

/-- A telegram in a positioned mode that a positioned car admits. -/
theorem Ev.arrive_admitted {tb : LiveTable} (h : e.toBlocks.hears p t k) (ht : e.consist.table = some tb)
    (ha : tb.admits p t k) (hm : k.mode ≠ .neighbour) : e.arrive p t = e.route tb p k t := by
  obtain ⟨hf, hgen, hside⟩ := ha
  refine (Ev.arrive_heard h).trans ?_
  unfold Ev.arriveSane
  rw [hf, Blocks.genOk_table ht, hgen, beq_self_eq_true, if_neg (by decide), if_pos rfl, ht]
  exact (if_neg hm).trans (if_pos (hside hm))

end

section
variable {e : Ev} {p : Port} {payload : List Byte}

theorem Ev.takeFamily_sweep {b : SweepBody} (h : parseSweep payload = some b) :
    e.takeFamily p .sweep payload = e.takeSweep p b := by
  unfold Ev.takeFamily
  dsimp only
  rw [h]

theorem Ev.takeFamily_ret {b : SweepBody} (h : parseSweep payload = some b) :
    e.takeFamily p .ret payload = e.takeReturn p b := by
  unfold Ev.takeFamily
  dsimp only
  rw [h]

theorem Ev.takeFamily_sweepFail {b : FailBody} (h : parseFail payload = some b) :
    e.takeFamily p .sweepFail payload = e.takeSweepFail p b := by
  unfold Ev.takeFamily
  dsimp only
  rw [h]

theorem Ev.takeFamily_confirm {b : ConfirmBody} (h : parseConfirm payload = some b) :
    e.takeFamily p .confirm payload = e.takeConfirm p b := by
  unfold Ev.takeFamily
  dsimp only
  rw [h]

end

/-! ## Payloads that were read (11.6) -/

theorem wordBytes_packWord (a b : Byte) : wordBytes (packWord a b) = [a, b] := by
  unfold wordBytes
  rw [loByte_packWord, hiByte_packWord]

theorem loHalf_joinWide (a b : Word) : loHalf (joinWide a b) = a := by
  apply BitVec.eq_of_getLsbD_eq
  intro i hi
  simp only [loHalf, joinWide, BitVec.getLsbD_setWidth, BitVec.getLsbD_append]
  simp [hi]

theorem hiHalf_joinWide (a b : Word) : hiHalf (joinWide a b) = b := by
  apply BitVec.eq_of_getLsbD_eq
  intro i hi
  simp only [hiHalf, joinWide, BitVec.getLsbD_setWidth, BitVec.getLsbD_ushiftRight, BitVec.getLsbD_append]
  simp [hi]

theorem identBytes_joinIdent (a b c d : Byte) : identBytes (joinIdent a b c d) = [a, b, c, d] := by
  unfold identBytes joinIdent
  rw [loHalf_joinWide, hiHalf_joinWide, wordBytes_packWord, wordBytes_packWord]
  rfl

theorem parseEntries_count {m : Nat} {bs : List Byte} {xs : List SweepEntry} (h : parseEntries m bs = some xs) :
    xs.length = m := by
  fun_induction parseEntries m bs generalizing xs with
  | case1 =>
    cases h
    rfl
  | case2 =>
    next ys hys ih =>
    cases h
    rw [List.length_cons, ih hys]
  | case3 => cases h
  | case4 => cases h
  | case5 => cases h

theorem parseEntries_bytes {m : Nat} {bs : List Byte} {xs : List SweepEntry} (h : parseEntries m bs = some xs) :
    xs.flatMap entryBytes = bs := by
  fun_induction parseEntries m bs generalizing xs with
  | case1 =>
    cases h
    rfl
  | case2 m i0 i1 i2 i3 te dl dr fl r f s sp rest x hsane ys hys =>
    rename_i ih
    cases h
    have hsp : sp = 0 := by
      unfold entrySane at hsane
      exact beq_iff_eq.mp (Bool.and_eq_true _ _ ▸ hsane).2
    rw [List.flatMap_cons, ih hys, hsp]
    unfold entryBytes
    rw [identBytes_joinIdent]
    rfl
  | case3 => cases h
  | case4 => cases h
  | case5 => cases h

theorem sweepPayload_of_parse {bs : List Byte} {b : SweepBody} (h : parseSweep bs = some b) : sweepPayload b = bs := by
  unfold parseSweep at h
  split at h
  · split at h
    · next hxs =>
      cases h
      unfold sweepPayload
      dsimp only
      rw [identBytes_joinIdent, parseEntries_bytes hxs, parseEntries_count hxs, byte_toNat]
      rfl
    · cases h
  · cases h

theorem failPayload_of_parse {bs : List Byte} {b : FailBody} (h : parseFail bs = some b) : failPayload b = bs := by
  unfold parseFail at h
  split at h
  · cases h
    unfold failPayload
    dsimp only
    rw [identBytes_joinIdent]
    rfl
  · cases h

theorem confirmPayload_of_parse {bs : List Byte} {b : ConfirmBody} (h : parseConfirm bs = some b) :
    confirmPayload b = bs := by
  unfold parseConfirm at h
  split at h
  · cases h
    unfold confirmPayload
    dsimp only
    rw [identBytes_joinIdent]
    rfl
  · cases h

end Sys2Proof.Machine
end

section
/-! PROOF. A SWEEP telegram (R32, R33, R40). -/

namespace Sys2Proof.Machine

/-- What a lost contest leaves of the car that validates: the profile, the links, the clock. -/
theorem Ev.judged_car (e : Ev) (v : Contest) (y : Ident) : CarKept e (if v = .abandons then e.abandonLead y else e) := by
  split
  · exact Ev.abandonLead_car e y
  · exact .refl e

theorem Ev.takeSweep_judged (e : Ev) (p : Port) (b : SweepBody) :
    e.takeSweep p b =
      if contestOf e.consist e.profile.identity b.leadId b.number = .discards then e
      else (if contestOf e.consist e.profile.identity b.leadId b.number = .abandons then e.abandonLead b.leadId
        else e).validateSweep p b := by
  unfold Ev.takeSweep
  cases contestOf e.consist e.profile.identity b.leadId b.number <;> rfl

section
variable {own : Ident} {lp : LinkPort} {xs : List SweepEntry} {x : SweepEntry}

theorem sweepFault_tooLong (h : 32 ≤ xs.length) : sweepFault own lp xs = some (.tooLong, 33) := if_pos h

theorem sweepFault_last (h : xs.length < 32) (hx : xs.getLast? = some x) :
    sweepFault own lp xs =
      if x.id ≠ lp.nbrId ∨ lp.nbrEnd ≠ awayEnd x ∨ (own ≠ 0 ∧ xs.any fun y => y.id == own) then
        some (.inconsistent, xs.length + 1)
      else none := by
  unfold sweepFault
  rw [if_neg (by omega), hx]

end

theorem Ev.validateSweep_fault {e : Ev} {p : Port} {b : SweepBody} {why : FailReason} {pos : Nat}
    (h : sweepFault e.profile.identity (e.port p) b.entries = some (why, pos)) :
    e.validateSweep p b = e.sendFail p b.leadId b.number why pos := by
  unfold Ev.validateSweep
  rw [h]

theorem Ev.validateSweep_ok {e : Ev} {p : Port} {b : SweepBody}
    (h : sweepFault e.profile.identity (e.port p) b.entries = none) : e.validateSweep p b = e.takeUpSweep p b := by
  unfold Ev.validateSweep
  rw [h]

/-- A SWEEP_FAIL after the contest. -/
theorem Ev.takeSweep_fault {e : Ev} {p : Port} {b : SweepBody} {why : FailReason} {pos : Nat}
    (hv : contestOf e.consist e.profile.identity b.leadId b.number ≠ .discards)
    (h : sweepFault e.profile.identity (e.port p) b.entries = some (why, pos)) :
    e.takeSweep p b =
      (if contestOf e.consist e.profile.identity b.leadId b.number = .abandons then e.abandonLead b.leadId
        else e).sendFamily p .sweepFail (identBytes b.leadId ++ [b.number, byte (failReasonNum why), byte pos]) := by
  have hcar := Ev.judged_car e (contestOf e.consist e.profile.identity b.leadId b.number) b.leadId
  have hitems := hcar.items p
  refine (Ev.takeSweep_judged e p b).trans ((if_neg hv).trans (Ev.validateSweep_fault ?_))
  rw [hcar.profile, ← h]
  unfold sweepFault
  rw [hitems.nbrId, hitems.nbrEnd]

/-- A sweep taken up after the contest. -/
theorem Ev.takeSweep_ok {e : Ev} {p : Port} {b : SweepBody}
    (hv : contestOf e.consist e.profile.identity b.leadId b.number ≠ .discards)
    (h : sweepFault e.profile.identity (e.port p) b.entries = none) :
    e.takeSweep p b =
      (if contestOf e.consist e.profile.identity b.leadId b.number = .abandons then e.abandonLead b.leadId
        else e).takeUpSweep p b := by
  have hcar := Ev.judged_car e (contestOf e.consist e.profile.identity b.leadId b.number) b.leadId
  have hitems := hcar.items p
  refine (Ev.takeSweep_judged e p b).trans ((if_neg hv).trans (Ev.validateSweep_ok ?_))
  rw [hcar.profile, ← h]
  unfold sweepFault
  rw [hitems.nbrId, hitems.nbrEnd]

/-- The sweep taken up, in the items the contest leaves. -/
theorem CarKept.takeUpSweep {e e1 : Ev} (h : CarKept e e1) (p : Port) (b : SweepBody) :
    e1.takeUpSweep p b =
      if e.isUp (portOther p) then
        (e1.setConsist { e1.consist with
          sweep := .carrying, carryT := .running e.tick, watchT := .stopped
          carry := some { leadId := b.leadId, number := b.number, port := p, pos := b.entries.length + 1 }
          pendingTable := none }).sendFamily (portOther p) .sweep
            (sweepPayload { b with entries := b.entries ++ [e.toBlocks.ownEntry p] })
      else
        (e1.setConsist { e1.consist with
          sweep := .carrying, carryT := .running e.tick, watchT := .stopped
          carry := some { leadId := b.leadId, number := b.number, port := p, pos := b.entries.length + 1 }
          pendingTable := some (b.entries ++ [e.toBlocks.ownEntry p]) }).sendFamily p .ret
            (sweepPayload { b with entries := b.entries ++ [e.toBlocks.ownEntry p] }) := by
  have hown : e1.toBlocks.ownEntry p = e.toBlocks.ownEntry p := by
    unfold Blocks.ownEntry
    rw [h.profile]
  unfold Ev.takeUpSweep Ev.timerNow
  dsimp only
  rw [h.isUp, h.tick, hown]
  rfl

theorem sweepPayload_append (b : SweepBody) (x : SweepEntry) :
    sweepPayload { b with entries := b.entries ++ [x] } =
      identBytes b.leadId ++ [b.number, byte (b.entries.length + 1)] ++ (b.entries ++ [x]).flatMap entryBytes := by
  unfold sweepPayload
  dsimp only
  rw [List.length_append]
  rfl

theorem any_id_iff (xs : List SweepEntry) (y : Ident) : (xs.any fun x => x.id == y) = true ↔ ∃ x ∈ xs, x.id = y := by
  rw [List.any_eq_true]
  exact exists_congr fun x => and_congr_right fun _ => beq_iff_eq

/-- A telegram of the sweep family that is heard, by what its consumer does. -/
theorem runEvent_sweepTelegram {s : State} {p : Port} {t : Telegram} {k : Sane} {g : Ev → Ev}
    (hh : s.blk.hears p t k) (hf : sweepFamily k.kind = true)
    (hg : (Ev.start s.blk).takeFamily p k.kind t.payload = g (Ev.start s.blk)) :
    Host.Outcome.next (runEvent (fun e => e.arrive p t) s) =
      (.next (s.does s.blk fun e => (g e).offer (portNum p) t) : Host.Outcome State Fault Refusal) :=
  congrArg Host.Outcome.next
    (runEvent_doing (g := fun e => e.arrive p t) (g' := fun e => (g e).offer (portNum p) t)
      ((Ev.arrive_family hh hf).trans (congrArg (fun e => Ev.offer e (portNum p) t) hg)))

/-- Settles O30: the contest, the validation, and the sweep taken up. -/
theorem sweepTelegram : Obligations.SweepTelegram := by
  unfold Obligations.SweepTelegram
  intro p t k b s hh hk hb c verdict judged m lp mine run
  have hrow : ∀ g : Ev → Ev, (Ev.start s.blk).takeSweep p b = g (Ev.start s.blk) → run g := fun g hg =>
    runEvent_sweepTelegram hh (by rw [hk]; rfl) (by rw [hk, Ev.takeFamily_sweep hb, hg])
  have hfault : ∀ {why : FailReason} {pos : Nat}, verdict ≠ .discards →
      sweepFault mine lp b.entries = some (why, pos) → run fun e =>
        (judged e).sendFamily p .sweepFail (identBytes b.leadId ++ [b.number, byte (failReasonNum why), byte pos]) :=
    fun hv h => hrow _ (Ev.takeSweep_fault (e := Ev.start s.blk) (p := p) hv h)
  refine ⟨fun hv => hrow _ ((Ev.takeSweep_judged _ p b).trans (if_pos hv)),
    fun hv hm => hfault (why := .tooLong) (pos := 33) hv (sweepFault_tooLong hm), fun hv hm x hx => ?_⟩
  have hwrong : (x.id ≠ lp.nbrId ∨ lp.nbrEnd ≠ awayEnd x ∨ (mine ≠ 0 ∧ ∃ y ∈ b.entries, y.id = mine)) ↔
      (x.id ≠ lp.nbrId ∨ lp.nbrEnd ≠ awayEnd x ∨ (mine ≠ 0 ∧ b.entries.any fun y => y.id == mine)) := by
    rw [any_id_iff]
  refine ⟨fun hw => hfault (why := .inconsistent) (pos := m + 1) hv ((sweepFault_last hm hx).trans (if_pos (hwrong.mp hw))), fun hw => hrow _ ?_⟩
  have hok := (sweepFault_last (own := mine) (lp := lp) hm hx).trans (if_neg fun h => hw (hwrong.mpr h))
  refine (Ev.takeSweep_ok (e := Ev.start s.blk) hv hok).trans ?_
  rw [(Ev.judged_car (Ev.start s.blk) _ b.leadId).takeUpSweep, sweepPayload_append]
  rfl

end Sys2Proof.Machine
end


section
/-! PROOF. RETURN and SWEEP_FAIL telegrams (R34, R35, R37, R38). -/

namespace Sys2Proof.Machine

theorem eq_portOther_iff {p q : Port} : p = portOther q ↔ p ≠ q := by
  cases p <;> cases q <;> decide

/-! ## At a carrying car (R34, R37) -/

theorem Carry.fromBeyond_iff {y : Carry} {p : Port} {i : Ident} {n : Byte} :
    y.fromBeyond p i n = true ↔ p ≠ y.port ∧ i = y.leadId ∧ n = y.number := by
  unfold Carry.fromBeyond
  rw [Bool.and_eq_true, Bool.and_eq_true, decide_eq_true_iff, beq_iff_eq, beq_iff_eq, eq_portOther_iff, and_assoc,
    eq_comm (a := y.leadId), eq_comm (a := y.number)]

section
variable {e : Ev} {p : Port} {y : Carry}

theorem Ev.takeReturn_carry {b : SweepBody} (hr : e.consist.role ≠ .lead) (hc : e.consist.carry = some y) :
    e.takeReturn p b = e.carryReturn y p b := by
  unfold Ev.takeReturn
  rw [hc]
  cases hrole : e.consist.role with
  | lead => exact absurd hrole hr
  | follower => rfl
  | alone => rfl

theorem Ev.takeReturn_idle {b : SweepBody} (hr : e.consist.role ≠ .lead) (hc : e.consist.carry = none) :
    e.takeReturn p b = e := by
  unfold Ev.takeReturn
  rw [hc]
  cases hrole : e.consist.role with
  | lead => exact absurd hrole hr
  | follower => rfl
  | alone => rfl

theorem Ev.takeReturn_lead {b : SweepBody} {t : LiveTable} (hr : e.consist.role = .lead)
    (ht : e.consist.table = some t) : e.takeReturn p b = e.leadReturn t.toward p b := by
  unfold Ev.takeReturn
  rw [hr, ht]

theorem Ev.takeSweepFail_carry {b : FailBody} (hr : e.consist.role ≠ .lead) (hc : e.consist.carry = some y) :
    e.takeSweepFail p b =
      if y.fromBeyond p b.leadId b.number then (e.sendFamily y.port .sweepFail (failPayload b)).endCarry else e := by
  unfold Ev.takeSweepFail
  rw [hc]
  cases hrole : e.consist.role with
  | lead => exact absurd hrole hr
  | follower => rfl
  | alone => rfl

theorem Ev.takeSweepFail_idle {b : FailBody} (hr : e.consist.role ≠ .lead) (hc : e.consist.carry = none) :
    e.takeSweepFail p b = e := by
  unfold Ev.takeSweepFail
  rw [hc]
  cases hrole : e.consist.role with
  | lead => exact absurd hrole hr
  | follower => rfl
  | alone => rfl

theorem Ev.takeSweepFail_lead {b : FailBody} {t : LiveTable} (hr : e.consist.role = .lead)
    (ht : e.consist.table = some t) : e.takeSweepFail p b = e.leadFail t.toward p b := by
  unfold Ev.takeSweepFail
  rw [hr, ht]

/-- The car finds itself at its place in the list. -/
theorem Ev.carryReturn_bears {b : SweepBody} {x : SweepEntry} (hm : y.fromBeyond p b.leadId b.number = true)
    (hx : b.entries[y.pos - 1]? = some x) (hid : x.id = e.profile.identity) :
    e.carryReturn y p b =
      (e.setConsist { e.consist with pendingTable := some b.entries }).sendSweep y.port .ret b := by
  unfold Ev.carryReturn
  rw [if_pos hm, hx]
  exact if_pos hid

theorem Ev.carryReturn_amiss {b : SweepBody} (hm : y.fromBeyond p b.leadId b.number = true)
    (hx : ¬ ∃ x, b.entries[y.pos - 1]? = some x ∧ x.id = e.profile.identity) :
    e.carryReturn y p b = e.sendFail y.port y.leadId y.number .inconsistent y.pos := by
  unfold Ev.carryReturn
  rw [if_pos hm]
  cases hat : b.entries[y.pos - 1]? with
  | none => rfl
  | some x => exact if_neg fun hid => hx ⟨x, hat, hid⟩

end

/-! ## At the lead (R35, R38) -/

theorem Consist.isAttempt_iff {c : Consist} {i : Ident} {n : Byte} :
    c.isAttempt i n = true ↔ i = c.attemptLead ∧ n = c.sweepCounter := by
  unfold Consist.isAttempt
  rw [Bool.and_eq_true, beq_iff_eq, beq_iff_eq, eq_comm (a := c.attemptLead), eq_comm (a := c.sweepCounter)]

/-- A list of two cars or more: what the lead's check asks of it. -/
theorem returnOk_iff {own : Ident} {cab : Port} {lp : LinkPort} {xs : List SweepEntry} :
    returnOk own cab lp xs = true ↔
      ∃ x1 x2 rest, xs = x1 :: x2 :: rest ∧ xs.length ≤ 32 ∧ x1.id = own ∧ x1.towardEnd = byte (portNum cab) ∧
        x2.id = lp.nbrId ∧ lp.nbrEnd = x2.towardEnd ∧ distinctIds xs = true := by
  constructor
  · intro h
    match xs, h with
    | x1 :: x2 :: rest, h =>
      refine ⟨x1, x2, rest, rfl, ?_⟩
      simpa [returnOk, and_assoc] using h
  · rintro ⟨x1, x2, rest, rfl, h⟩
    simpa [returnOk, and_assoc] using h

section
variable {e : Ev} {cab p : Port} {k : Nat}

theorem Ev.leadReturn_await {b : SweepBody} (hs : e.consist.sweep = .awaitReturn k)
    (hm : p ≠ cab ∧ b.leadId = e.consist.attemptLead ∧ b.number = e.consist.sweepCounter) :
    e.leadReturn cab p b =
      if returnOk e.profile.identity cab (e.port p) b.entries then e.completeSweep cab b
      else e.failSweep cab .inconsistent 1 := by
  unfold Ev.leadReturn
  rw [hs]
  exact if_pos ⟨eq_portOther_iff.mpr hm.1, Consist.isAttempt_iff.mpr hm.2⟩

/-- Any other RETURN is discarded. -/
theorem Ev.leadReturn_other {b : SweepBody}
    (hm : ¬ ((∃ a, e.consist.sweep = .awaitReturn a) ∧ p ≠ cab ∧ b.leadId = e.consist.attemptLead ∧
      b.number = e.consist.sweepCounter)) : e.leadReturn cab p b = e := by
  unfold Ev.leadReturn
  cases hs : e.consist.sweep with
  | awaitReturn a =>
    exact if_neg fun h => hm ⟨⟨a, hs⟩, eq_portOther_iff.mp h.1, Consist.isAttempt_iff.mp h.2⟩
  | idle => rfl
  | carrying => rfl
  | resweepWait => rfl

theorem Ev.leadFail_await {b : FailBody} (hs : e.consist.sweep = .awaitReturn k)
    (hm : p ≠ cab ∧ b.leadId = e.consist.attemptLead ∧ b.number = e.consist.sweepCounter) :
    e.leadFail cab p b =
      if b.reason = 1 then e.failSweep cab .tooLong b.pos.toNat
      else if b.reason = 2 then e.failSweep cab .inconsistent b.pos.toNat
      else if b.reason = 3 then e.retryOrFail cab k .linkLost b.pos.toNat
      else e := by
  unfold Ev.leadFail
  rw [hs]
  refine (if_pos ⟨eq_portOther_iff.mpr hm.1, Consist.isAttempt_iff.mpr hm.2⟩).trans ?_
  split
  · next h1 => rw [if_pos (BitVec.eq_of_toNat_eq h1)]
  · next h2 => rw [if_neg (by bv_omega), if_pos (BitVec.eq_of_toNat_eq h2)]
  · next h3 => rw [if_neg (by bv_omega), if_neg (by bv_omega), if_pos (BitVec.eq_of_toNat_eq h3)]
  · next h1 h2 h3 =>
    rw [if_neg fun h => h1 (by rw [h]; rfl), if_neg fun h => h2 (by rw [h]; rfl), if_neg fun h => h3 (by rw [h]; rfl)]

theorem Ev.leadFail_other {b : FailBody}
    (hm : ¬ (p ≠ cab ∧ b.leadId = e.consist.attemptLead ∧ b.number = e.consist.sweepCounter)) :
    e.leadFail cab p b = e := by
  unfold Ev.leadFail
  cases e.consist.sweep with
  | awaitReturn a => exact if_neg fun h => hm ⟨eq_portOther_iff.mp h.1, Consist.isAttempt_iff.mp h.2⟩
  | idle => rfl
  | carrying => rfl
  | resweepWait => rfl

theorem Ev.leadFail_outside {b : FailBody} (hs : e.consist.sweep = .idle ∨ e.consist.sweep = .resweepWait) :
    e.leadFail cab p b = e := by
  unfold Ev.leadFail
  obtain hs | hs := hs <;> rw [hs]

end

/-! ## The rows -/

theorem returnCarried_holds : Says.ReturnCarried := by
  unfold Says.ReturnCarried
  intro p t k b y s hh hk hb hr hc _ run mine bears
  have hrow : ∀ g : Ev → Ev, (Ev.start s.blk).carryReturn y p b = g (Ev.start s.blk) → run g := fun g hg =>
    runEvent_sweepTelegram hh (by rw [hk]; rfl)
      (by rw [hk, Ev.takeFamily_ret hb, Ev.takeReturn_carry hr hc, hg])
  refine ⟨fun hm => hrow _ (if_neg fun h => hm (Carry.fromBeyond_iff.mp h)), fun hm hx => hrow _ ?_,
    fun hm hx => hrow _ (Ev.carryReturn_amiss (Carry.fromBeyond_iff.mpr hm) hx)⟩
  obtain ⟨x, hat, hid⟩ := hx
  refine (Ev.carryReturn_bears (Carry.fromBeyond_iff.mpr hm) hat hid).trans ?_
  unfold Ev.sendSweep
  rw [sweepPayload_of_parse hb]

theorem returnAtLead_holds : Says.ReturnAtLead := by
  unfold Says.ReturnAtLead
  intro p t k b tb s hh hk hb hr ht c cab lp mine checks run
  have hrow : ∀ g : Ev → Ev, (Ev.start s.blk).leadReturn cab p b = g (Ev.start s.blk) → run g := fun g hg =>
    runEvent_sweepTelegram hh (by rw [hk]; rfl)
      (by rw [hk, Ev.takeFamily_ret hb, Ev.takeReturn_lead hr ht, hg])
  refine ⟨fun hm => hrow _ (Ev.leadReturn_other hm), fun ⟨⟨a, ha⟩, hm⟩ hx => hrow _ ?_,
    fun ⟨⟨a, ha⟩, hm⟩ hx => hrow _ ?_⟩
  · exact (Ev.leadReturn_await (e := Ev.start s.blk) ha hm).trans (if_neg fun h => hx (returnOk_iff.mp h))
  · refine (Ev.leadReturn_await (e := Ev.start s.blk) ha hm).trans ((if_pos (returnOk_iff.mpr hx)).trans ?_)
    unfold Ev.completeSweep
    rw [← eq_portOther_iff.mpr hm.1]
    rfl

theorem sweepFailTelegram_holds : Says.SweepFailTelegram := by
  unfold Says.SweepFailTelegram
  intro p t k b s hh hk hb c run
  have hrow : ∀ g : Ev → Ev, (Ev.start s.blk).takeSweepFail p b = g (Ev.start s.blk) → run g := fun g hg =>
    runEvent_sweepTelegram hh (by rw [hk]; rfl) (by rw [hk, Ev.takeFamily_sweepFail hb, hg])
  refine ⟨fun y hr hc => ⟨fun hm => hrow _ ?_, fun hm => hrow _ ?_⟩,
    fun hr hc => hrow _ (Ev.takeSweepFail_idle hr hc), fun tb a hr ht ha => ?_⟩
  · refine (Ev.takeSweepFail_carry hr hc).trans ((if_pos (Carry.fromBeyond_iff.mpr hm)).trans ?_)
    rw [failPayload_of_parse hb]
  · exact (Ev.takeSweepFail_carry hr hc).trans (if_neg fun h => hm (Carry.fromBeyond_iff.mp h))
  · have hlead := Ev.takeSweepFail_lead (e := Ev.start s.blk) (p := p) (b := b) hr ht
    refine ⟨fun hm => hrow _ (hlead.trans (Ev.leadFail_other hm)), fun hm h1 => hrow _ ?_, fun hm h2 => hrow _ ?_,
      fun hm h3 => hrow _ ?_, fun hm h1 h2 h3 => hrow _ ?_⟩
    all_goals refine hlead.trans ((Ev.leadFail_await (e := Ev.start s.blk) ha hm).trans ?_)
    · rw [if_pos h1]
    · rw [if_neg (by rw [h2]; decide), if_pos h2]
    · rw [if_neg (by rw [h3]; decide), if_neg (by rw [h3]; decide), if_pos h3]
    · rw [if_neg h1, if_neg h2, if_neg h3]

theorem answersDiscarded_holds : Says.AnswersDiscarded := by
  unfold Says.AnswersDiscarded
  intro p t k s hh c
  refine ⟨fun b hk hb hr hc => ?_, fun b tb hk hb hr ht hs => ?_⟩
  · refine runEvent_sweepTelegram (g := fun e => e) hh (by rw [hk]; rfl) ?_
    rw [hk, Ev.takeFamily_ret hb, Ev.takeReturn_idle hr hc]
  · refine runEvent_sweepTelegram (g := fun e => e) hh (by rw [hk]; rfl) ?_
    rw [hk, Ev.takeFamily_sweepFail hb, Ev.takeSweepFail_lead hr ht, Ev.leadFail_outside hs]

/-- Settles O31: the answers of a sweep, at the cars that carry it and at its lead. -/
theorem sweepAnswers : Obligations.SweepAnswers :=
  ⟨returnCarried_holds, returnAtLead_holds, sweepFailTelegram_holds, answersDiscarded_holds⟩

end Sys2Proof.Machine
end


section
/-! PROOF. CONFIRM and DISSOLVE telegrams, and the loss of a follower's table (R36, R42 to R46). -/

namespace Sys2Proof.Machine

theorem Ev.takeFamily_dissolve {e : Ev} {p : Port} {g : Byte} :
    e.takeFamily p .dissolve [g] = e.takeDissolve p g := rfl

theorem Ev.noteInstalled_some {e : Ev} {t : LiveTable} (h : e.consist.table = some t) :
    e.noteInstalled = e.notice .consistInstalled (hiLo t.gen.toNat t.entries.length)
      (hiLo t.pos (portNum t.toward)) := by
  unfold Ev.noteInstalled
  rw [h]

/-! ## CONFIRM (R36) -/

section
variable {e : Ev} {p : Port} {b : ConfirmBody}

theorem Ev.takeConfirm_nothing (h : e.consist.carry = none ∨ e.consist.pendingTable = none) :
    e.takeConfirm p b = e := by
  unfold Ev.takeConfirm
  obtain h | h := h
  · rw [h]
  · rw [h]
    cases e.consist.carry <;> rfl

theorem Ev.takeConfirm_some {y : Carry} {xs : List SweepEntry} (hc : e.consist.carry = some y)
    (hp : e.consist.pendingTable = some xs) :
    e.takeConfirm p b =
      if p = y.port ∧ y.leadId = b.leadId ∧ y.number = b.number ∧ b.n.toNat = xs.length then
        e.installFollower y xs b
      else e := by
  unfold Ev.takeConfirm
  rw [hc, hp]

/-- The checks of an install find the links as they stood before it. -/
theorem CarKept.installChecks {e1 : Ev} (h : CarKept e e1) (t : LiveTable) :
    e1.installChecks t =
      if t.pos < t.entries.length then if e.isUp (portOther t.toward) then e1 else e1.sendBreak
      else if e.isUp (portOther t.toward) then e1.join .newNeighbour else e1 := by
  unfold Ev.installChecks
  rw [h.isUp]
  rfl

end

/-- A follower's table shown and noted after the CONFIRM went on (R36, R48). -/
def Ev.confirmed (e : Ev) (t : LiveTable) (payload : List Byte) : Ev :=
  ((if t.pos < t.entries.length then e.sendFamily (portOther t.toward) .confirm payload else e).publishNow
    .consist).notice .consistInstalled (hiLo t.gen.toNat t.entries.length) (hiLo t.pos (portNum t.toward))

theorem CarKept.confirmed {e e1 : Ev} {t : LiveTable} (h : CarKept e e1) (ht : e1.consist.table = some t)
    (payload : List Byte) :
    (((if t.pos < t.entries.length then e1.sendFamily t.away .confirm payload else e1).publishNow
      .consist).noteInstalled).installChecks t =
      if t.pos < t.entries.length then
        if e.isUp (portOther t.toward) then e1.confirmed t payload else (e1.confirmed t payload).sendBreak
      else if e.isUp (portOther t.toward) then (e1.confirmed t payload).join .newNeighbour
      else e1.confirmed t payload := by
  have hsent : TrainKept e1
      (if t.pos < t.entries.length then e1.sendFamily (portOther t.toward) .confirm payload else e1) := by
    split
    · exact Ev.sendFamily_kept e1 _ _ _
    · exact .refl e1
  have hshown := hsent.trans (.publishNow _ .consist)
  have hnote := Ev.noteInstalled_some ((congrArg Consist.table hshown.consist).trans ht)
  exact (congrArg (fun e => Ev.installChecks e t) hnote).trans
    ((h.trans (hshown.trans (.notice _ _ _ _)).toCarKept).installChecks t)

theorem confirmTelegram_holds : Says.ConfirmTelegram := by
  unfold Says.ConfirmTelegram
  intro p t k b s hh hk hb c run
  have hrow : ∀ g : Ev → Ev, (Ev.start s.blk).takeConfirm p b = g (Ev.start s.blk) → run g := fun g hg =>
    runEvent_sweepTelegram hh (by rw [hk]; rfl) (by rw [hk, Ev.takeFamily_confirm hb, hg])
  refine ⟨fun h => hrow _ (Ev.takeConfirm_nothing h), fun y x xs hc hp hs => ?_⟩
  have htake := Ev.takeConfirm_some (e := Ev.start s.blk) (p := p) (b := b) hc hp
  refine ⟨fun hm => hrow _ (htake.trans (if_neg fun ⟨hp, hi, hn, hl⟩ => hm ⟨hp, hi.symm, hn.symm, hl⟩)), ?_⟩
  rintro ⟨rfl, hi, hn, hl⟩
  refine hrow _ (htake.trans ((if_pos ⟨rfl, hi.symm, hn.symm, hl⟩).trans ?_))
  have hidle : (Ev.start s.blk).consist.endCarry =
      { s.blk.consist with carry := none, pendingTable := none, carryT := .stopped, sweep := .idle } :=
    congrArg (fun w => { s.blk.consist with carry := none, pendingTable := none, carryT := .stopped, sweep := w })
      (if_pos hs)
  have hcar : CarKept (Ev.start s.blk) (((Ev.start s.blk).setConsist { (Ev.start s.blk).consist.endCarry with
      table := some { entries := x :: xs, pos := y.pos, gen := b.gen, leadId := x.id, toward := y.port }
      lastGen := b.gen, role := .follower, watchT := .running s.blk.tick }).dropGrant) :=
    (CarKept.setConsist _ _).trans (Ev.dropGrant_kept _).toCarKept
  refine (hcar.confirmed rfl (confirmPayload b)).trans ?_
  rw [confirmPayload_of_parse hb, hidle]
  rfl

/-! ## DISSOLVE (R44) -/

section
variable {e : Ev} {p : Port} {g : Byte}

theorem Ev.takeDissolve_follower {t : LiveTable} (hr : e.consist.role = .follower) (ht : e.consist.table = some t) :
    e.takeDissolve p g =
      if p = t.toward ∧ g = t.gen then
        (if t.pos < t.entries.length then e.sendDissolve t.away else e).loseTable .dissolved t
      else e := by
  unfold Ev.takeDissolve
  rw [hr, ht]

theorem Ev.takeDissolve_other (hr : e.consist.role ≠ .follower) : e.takeDissolve p g = e := by
  unfold Ev.takeDissolve
  cases h : e.consist.role with
  | follower => exact absurd h hr
  | lead => rfl
  | alone => rfl

end

theorem dissolveTelegram_holds : Says.DissolveTelegram := by
  unfold Says.DissolveTelegram
  intro p t k g s hh hk hb c run
  have hrow : ∀ f : Ev → Ev, (Ev.start s.blk).takeDissolve p g = f (Ev.start s.blk) → run f := fun f hf =>
    runEvent_sweepTelegram hh (by rw [hk]; rfl) (by rw [hk, hb, Ev.takeFamily_dissolve, hf])
  refine ⟨fun hr => hrow _ (Ev.takeDissolve_other hr), fun tb hr ht => ?_⟩
  have htake := Ev.takeDissolve_follower (e := Ev.start s.blk) (p := p) (g := g) hr ht
  refine ⟨fun hm => hrow _ (htake.trans (if_neg fun h => hm.elim (fun hp => hp h.1) fun hg => hg h.2)),
    fun hp hg => hrow _ (htake.trans ((if_pos ⟨hp, hg⟩).trans ?_))⟩
  have hgen : (Ev.start s.blk).liveGen = g := by
    rw [hg]
    unfold Blocks.liveGen
    rw [show (Ev.start s.blk).consist.table = some tb from ht]
  unfold Ev.sendDissolve
  rw [hgen, hp]
  rfl

theorem tableLost_holds : Says.TableLost := by
  intro e why t c r
  exact ⟨rfl, List.append_assoc e.effects _ _, rfl⟩

/-- Settles O32: CONFIRM, DISSOLVE, and the table lost. -/
theorem tableTelegrams : Obligations.TableTelegrams :=
  ⟨confirmTelegram_holds, dissolveTelegram_holds, tableLost_holds⟩

end Sys2Proof.Machine
end


section
/-! SUPPORT. The route of a telegram at a positioned car (R55 to R57). -/

namespace Sys2Proof.Machine

section
variable {e : Ev} {tb : LiveTable} {p : Port} {k : Sane} {x : Telegram}

theorem Ev.route_here (hh : addressed tb k.mode x.hdr.dstLo.toNat x.hdr.dstHi.toNat = true) :
    e.route tb p k x =
      if dueForward tb p k.mode x.hdr.dstLo.toNat x.hdr.dstHi.toNat then (e.handOff p k.kind x).forward p k.cls x
      else e.handOff p k.kind x := by
  unfold Ev.route
  dsimp only
  rw [hh, if_neg (by simp), if_neg (by simp), if_pos rfl]

theorem Ev.route_on (hk : k.kind ≠ .summary)
    (hh : addressed tb k.mode x.hdr.dstLo.toNat x.hdr.dstHi.toNat = false)
    (ho : dueForward tb p k.mode x.hdr.dstLo.toNat x.hdr.dstHi.toNat = true) :
    e.route tb p k x = e.forward p k.cls x := by
  unfold Ev.route
  dsimp only
  rw [hh, ho, if_neg (fun h => hk h.1), if_neg (fun h => Bool.noConfusion h.2)]
  rfl

theorem Ev.route_none
    (hh : addressed tb k.mode x.hdr.dstLo.toNat x.hdr.dstHi.toNat = false)
    (ho : dueForward tb p k.mode x.hdr.dstLo.toNat x.hdr.dstHi.toNat = false) :
    e.route tb p k x = e.drop p k.cls := by
  unfold Ev.route
  dsimp only
  rw [hh, ho, if_neg (fun h => Bool.noConfusion h.2.2), if_pos ⟨rfl, rfl⟩]

/-- A SUMMARY goes to the summary block of every car it is due to pass (R115). -/
theorem Ev.route_summary (hk : k.kind = .summary)
    (hh : addressed tb k.mode x.hdr.dstLo.toNat x.hdr.dstHi.toNat = false)
    (ho : dueForward tb p k.mode x.hdr.dstLo.toNat x.hdr.dstHi.toNat = true) :
    e.route tb p k x = e.handOff p k.kind x := by
  unfold Ev.route
  dsimp only
  rw [hh, ho]
  exact if_pos ⟨hk, rfl, rfl⟩

/-! ### Toward the lead -/

theorem dueForward_lead_side (lo hi : Nat) (h1 : 2 ≤ tb.pos) (hp : p ≠ tb.toward) :
    dueForward tb p .lead lo hi = true := by
  unfold dueForward beyondOf
  dsimp only
  rw [if_neg hp, Bool.and_eq_true, decide_eq_true_iff, decide_eq_true_iff]
  exact ⟨Nat.le_refl _, by omega⟩

theorem dueForward_lead_first (lo hi : Nat) (h1 : tb.pos = 1) (hp : p ≠ tb.toward) :
    dueForward tb p .lead lo hi = false := by
  unfold dueForward beyondOf
  dsimp only
  rw [if_neg hp, h1]
  rfl

theorem dueForward_lead_away (lo hi : Nat) (h1 : 1 ≤ tb.pos) (hp : p = tb.toward) :
    dueForward tb p .lead lo hi = false := by
  unfold dueForward beyondOf
  dsimp only
  rw [if_pos hp, Bool.and_eq_false_iff, decide_eq_false_iff_not]
  exact .inl (by omega)

theorem addressed_lead_eq (lo hi : Nat) : addressed tb .lead lo hi = decide (tb.pos = 1) := rfl

end

end Sys2Proof.Machine
end

section
/-! PROOF. Beacons: sent, received, and at their consumers (R41, R42, R112, R134, R140, R141). -/

namespace Sys2Proof.Machine

/-! ## Sent (R41) -/

theorem nextBeacon_eq {n : Word} (h : n.toNat < 60000) : nextBeacon n = if n.toNat = 59999 then 0 else n + 1 := by
  apply BitVec.eq_of_toNat_eq
  unfold nextBeacon Config.beaconModulus word
  split
  · next h1 =>
    rw [h1]
    rfl
  · rw [BitVec.toNat_ofNat, BitVec.toNat_add, Nat.mod_eq_of_lt (a := n.toNat + 1) (by omega)]
    rfl

theorem beaconSent_holds : Says.BeaconSent := by
  unfold Says.BeaconSent
  intro e c n stopped o x hn
  refine ⟨?_, rfl⟩
  unfold Ev.sendBeacon
  dsimp only
  rw [nextBeacon_eq hn]
  rfl

/-! ## At a positioned car (R42) -/

theorem Ev.takeBeacon_eq (e : Ev) (b : BeaconBody) :
    e.takeBeacon b =
      (if e.consist.role ≠ .lead ∧ b.number.toNat % 10 = 0 then ((e.acceptBeacon b).summaryBeacon b.number).sendDemand
        else (e.acceptBeacon b).summaryBeacon b.number).monitorBeacon := by
  unfold Ev.takeBeacon Ev.demandBeacon
  dsimp only
  by_cases hr : e.consist.role = .lead
  · rw [if_pos hr, if_neg fun h => h.1 hr]
  · rw [if_neg hr]
    by_cases hn : b.number.toNat % 10 = 0
    · rw [if_pos hn, if_pos ⟨hr, hn⟩]
    · rw [if_neg hn, if_neg fun h => hn h.2]

theorem Ev.acceptBeacon_eq {e : Ev} {tb : LiveTable} (ht : e.consist.table = some tb) (b : BeaconBody) :
    e.acceptBeacon b = e.setConsist (if e.consist.role = .follower then { e.consist with
      beaconNo := b.number, lastStationary := b.stationary, table := some { tb with leadId := b.leadId }
      watchT := if e.consist.sweep = .carrying then e.consist.watchT else .running e.tick } else e.consist) := by
  unfold Ev.acceptBeacon
  dsimp only
  rw [ht]
  cases e.consist.role <;> rfl

theorem Ev.consume_beacon {e : Ev} {t : Telegram} {b : BeaconBody} (h : parseBeacon t.payload = some b) :
    e.consume .beacon t = e.takeBeacon b := by
  unfold Ev.consume
  dsimp only
  rw [h]

theorem beaconTelegram_holds : Says.BeaconTelegram := by
  unfold Says.BeaconTelegram
  intro p t k b tb s hh hk hm hb ht ha c c1
  refine congrArg Host.Outcome.next (runEvent_doing ?_)
  refine (Ev.arrive_admitted hh ht ha (by rw [hm]; decide)).trans ((Ev.route_here (by rw [hm]; rfl)).trans ?_)
  unfold Ev.handOff
  rw [hk, hm, Ev.consume_beacon hb, Ev.takeBeacon_eq, Ev.acceptBeacon_eq ht]
  rfl

/-! ## At the summary block (R112) -/

theorem Blocks.chainEnd_none {b : Blocks} (h : b.consist.table = none) : b.chainEnd = false := by
  unfold Blocks.chainEnd
  rw [h]

theorem Blocks.chainEnd_iff {b : Blocks} {tb : LiveTable} (h : b.consist.table = some tb) :
    b.chainEnd = true ↔
      tb.pos = tb.entries.length ∨ (tb.pos < tb.entries.length ∧ b.isUp (portOther tb.toward) = false) := by
  unfold Blocks.chainEnd
  rw [h]
  simp only [Bool.or_eq_true, Bool.and_eq_true, beq_iff_eq, decide_eq_true_iff, Bool.not_eq_true', LiveTable.away]

section
variable {e : Ev} {t : Total}

/-- The lead judges its own copy at once (R117). -/
theorem Ev.sendTotal_local {l : Telegram}
    (h : (e.originate (summaryOutgoing (e.toBlocks.contribute t))).2.localTel = some l) :
    e.sendTotal t =
      ((e.originate (summaryOutgoing (e.toBlocks.contribute t))).1.judge (e.toBlocks.contribute t)).offer 0 l := by
  unfold Ev.sendTotal
  dsimp only
  rw [h]
  rfl

theorem Ev.sendTotal_remote
    (h : (e.originate (summaryOutgoing (e.toBlocks.contribute t))).2.localTel = none) :
    e.sendTotal t =
      if (e.originate (summaryOutgoing (e.toBlocks.contribute t))).2.report.placed ≠ 0 then
        (e.originate (summaryOutgoing (e.toBlocks.contribute t))).1.clearRefusal
      else (e.originate (summaryOutgoing (e.toBlocks.contribute t))).1 := by
  unfold Ev.sendTotal
  dsimp only
  rw [h]

end

theorem beaconAtSummary_holds : Says.BeaconAtSummary := by
  unfold Says.BeaconAtSummary
  intro e n
  refine ⟨fun h => if_neg (by rw [Blocks.chainEnd_none h]; decide), fun tb ht => ?_⟩
  intro chainEnd total x
  have hend := Blocks.chainEnd_iff (b := e.toBlocks) ht
  refine ⟨fun h => if_neg fun hc => h (hend.mp hc), fun h => ?_⟩
  have hsend : e.summaryBeacon n = e.sendTotal { beacon := n } := if_pos (hend.mpr h)
  exact ⟨fun t hl => hsend.trans (Ev.sendTotal_local hl),
    fun hl hp => hsend.trans ((Ev.sendTotal_remote hl).trans (if_neg fun h => h hp)),
    fun hl hp => hsend.trans ((Ev.sendTotal_remote hl).trans (if_pos hp))⟩

/-! ## At the demand computer and the supply monitor (R134, R140, R141) -/

theorem Blocks.demandFlags_eq (b : Blocks) :
    b.demandFlags = byte (flagNat b.heater.latch +
      if b.converter.chA.state = .noCode ∨ b.converter.chA.state = .unavailable then 2 else 0) := by
  unfold Blocks.demandFlags
  by_cases h : b.tempUnavailable = true
  · rw [h, if_pos ((Blocks.tempUnavailable_iff b).mp h)]
    rfl
  · rw [Bool.eq_false_iff.mpr h, if_neg fun hc => h ((Blocks.tempUnavailable_iff b).mpr hc)]
    rfl

theorem beaconAtDemand_holds : Says.BeaconAtDemand := by
  unfold Says.BeaconAtDemand
  intro e n d draw a flags
  have hflags : e.toBlocks.demandFlags = flags := Blocks.demandFlags_eq e.toBlocks
  refine ⟨?_, fun h => ⟨if_neg h, if_neg h⟩, fun h => if_pos h, fun x rest h ht => (if_pos h).trans ?_⟩
  · unfold Ev.sendDemand demandPayload Blocks.demandBody
    rw [hflags]
  · unfold Ev.updateEntry Blocks.demandBody
    rw [hflags, ht]
    rfl

theorem beaconAtMonitor_holds : Says.BeaconAtMonitor := by
  unfold Says.BeaconAtMonitor
  intro e m
  unfold Ev.monitorBeacon
  refine ⟨fun hm hs => ?_, fun h => ?_⟩
  · dsimp only [m] at hm hs
    split
    · rfl
    · next hne => exact absurd hs (hne hm)
  · split
    · next hm hs => exact h.elim (fun h => absurd hm h) (fun h => absurd hs h)
    · rfl

/-- Settles O33: a beacon sent, received, and at each of its consumers. -/
theorem beacons : Obligations.Beacons :=
  ⟨beaconSent_holds, beaconTelegram_holds, beaconAtSummary_holds, beaconAtDemand_holds, beaconAtMonitor_holds⟩

end Sys2Proof.Machine
end


section
/-! PROOF. Reports of the chain and of the car's own ports (R26, R37, R43, R45 to R47). -/

namespace Sys2Proof.Machine

/-! ## BREAK and JOIN received (R47) -/

theorem Ev.askResweep_idle {e : Ev} (h : e.consist.sweep = .idle) :
    e.askResweep = e.setConsist { e.consist with sweep := .resweepWait, settleT := .running e.tick } := by
  unfold Ev.askResweep
  rw [h]
  rfl

theorem Ev.askResweep_busy {e : Ev} (h : e.consist.sweep ≠ .idle) : e.askResweep = e := by
  unfold Ev.askResweep
  cases hs : e.consist.sweep with
  | idle => exact absurd hs h
  | carrying => rfl
  | awaitReturn _ => rfl
  | resweepWait => rfl

theorem breakAndJoin_holds : Says.BreakAndJoin := by
  unfold Says.BreakAndJoin
  intro p t k tb s row hh hrow hm ht ha c
  have hrun : exec row s = .next (runEvent (fun e => e.arrive p t) s) := by
    obtain ⟨-, rfl⟩ | ⟨-, rfl⟩ := hrow <;> rfl
  have hcons : ∀ e : Ev, e.consume k.kind t = e.takeReport := by
    obtain ⟨hk, -⟩ | ⟨hk, -⟩ := hrow <;> rw [hk] <;> intro e <;> rfl
  have hkind : k.kind ≠ .summary := by
    obtain ⟨hk, -⟩ | ⟨hk, -⟩ := hrow <;> rw [hk] <;> decide
  have harr : (Ev.start s.blk).arrive p t = (Ev.start s.blk).route tb p k t :=
    Ev.arrive_admitted hh ht ha (by rw [hm]; decide)
  have hdo : ∀ {b : Blocks} {g : Ev → Ev}, (Ev.start s.blk).route tb p k t = g (Ev.start b) →
      exec row s = .next (s.does b g) := fun hg =>
    hrun.trans (congrArg Host.Outcome.next (runEvent_doing (harr.trans hg)))
  have hlead : tb.pos = 1 → p ≠ tb.toward → c.role = .lead →
      (Ev.start s.blk).route tb p k t = (Ev.start s.blk).askResweep.offer (portNum p) t := fun h1 hp hr => by
    refine (Ev.route_here (by rw [hm, addressed_lead_eq, h1]; rfl)).trans ?_
    rw [hm, dueForward_lead_first _ _ h1 hp]
    unfold Ev.handOff
    rw [hcons]
    exact congrArg (fun e => Ev.offer e (portNum p) t) (if_pos hr)
  have hbeyond : 2 ≤ tb.pos → addressed tb k.mode t.hdr.dstLo.toNat t.hdr.dstHi.toNat = false := fun h2 => by
    rw [hm, addressed_lead_eq, decide_eq_false_iff_not]
    omega
  refine ⟨fun hr h1 hp => ⟨fun hs => hdo ?_, fun hs => hdo ?_⟩, fun h2 hp => hdo ?_, fun h2 hp => hdo ?_⟩
  · refine (hlead h1 hp hr).trans ?_
    rw [Ev.askResweep_idle hs]
    rfl
  · refine (hlead h1 hp hr).trans ?_
    rw [Ev.askResweep_busy hs]
  · exact Ev.route_on hkind (hbeyond h2) (by rw [hm, dueForward_lead_side _ _ h2 hp])
  · exact Ev.route_none (hbeyond h2) (by rw [hm, dueForward_lead_away _ _ (by omega) hp])

/-! ## Reports sent (R45, R46) -/

theorem Blocks.pos_some {b : Blocks} {t : LiveTable} (h : b.consist.table = some t) : b.pos = t.pos := by
  unfold Blocks.pos
  rw [h]

theorem Blocks.liveGen_some {b : Blocks} {t : LiveTable} (h : b.consist.table = some t) : b.liveGen = t.gen := by
  unfold Blocks.liveGen
  rw [h]

section
variable {e : Ev} {t : LiveTable}

theorem Ev.sendBreak_eq (ht : e.consist.table = some t) :
    e.sendBreak = (e.originate { kind := .brk, cls := .control, mode := .lead, payload := [byte t.pos] }).1 := by
  unfold Ev.sendBreak
  rw [Blocks.pos_some ht]

theorem Ev.join_alone (w : JoinReason) (hr : e.consist.role = .alone) : e.join w = e := by
  unfold Ev.join
  rw [hr]

theorem Ev.join_lead (w : JoinReason) (hr : e.consist.role = .lead) : e.join w = e.askResweep := by
  unfold Ev.join
  rw [hr]

theorem Ev.join_follower (w : JoinReason) (hr : e.consist.role = .follower) (ht : e.consist.table = some t) :
    e.join w = (e.originate { kind := .join, cls := .control, mode := .lead
                              payload := [byte t.pos, byte (joinReasonNum w)] }).1 := by
  unfold Ev.join
  rw [hr, Blocks.pos_some ht]

end

theorem reportsSent_holds : Says.ReportsSent := by
  unfold Says.ReportsSent
  intro e c
  refine ⟨fun t ht => Ev.sendBreak_eq ht, fun why => ?_⟩
  intro reason
  have hreason : byte (joinReasonNum why) = reason := by
    dsimp only [reason]
    cases why <;> rfl
  refine ⟨Ev.join_alone why, fun hr hs => (Ev.join_lead why hr).trans (Ev.askResweep_idle hs),
    fun hr hs => (Ev.join_lead why hr).trans (Ev.askResweep_busy hs), fun t hr ht => ?_⟩
  rw [Ev.join_follower why hr ht, hreason]

/-! ## A port that has left UP (R37, R38, R43, R45) -/

section
variable {e : Ev} {p : Port} {t : LiveTable}

theorem Ev.consistPortLost_free (h : e.consist.carry = none) : e.consistPortLost p = e.tablePortLost p := by
  unfold Ev.consistPortLost Ev.carryPortLost
  rw [h]

theorem Ev.tablePortLost_follower (hr : e.consist.role = .follower) (ht : e.consist.table = some t) :
    e.tablePortLost p =
      if p = t.toward then (e.sendFamily (portOther t.toward) .dissolve [t.gen]).loseTable .link t
      else if t.pos < t.entries.length then e.sendBreak
      else e := by
  unfold Ev.tablePortLost Ev.sendDissolve
  rw [hr, ht, Blocks.liveGen_some ht]
  rfl

theorem Ev.tablePortLost_cab (hr : e.consist.role = .lead) (ht : e.consist.table = some t) (hp : p = t.toward) :
    e.tablePortLost p = e := by
  unfold Ev.tablePortLost
  rw [hr, ht]
  exact if_pos hp

theorem Ev.tablePortLost_attempt {k : Nat} (hr : e.consist.role = .lead) (ht : e.consist.table = some t)
    (hp : p ≠ t.toward) (hs : e.consist.sweep = .awaitReturn k) :
    e.tablePortLost p = e.retryOrFail t.toward k .linkLost 1 := by
  unfold Ev.tablePortLost
  rw [hr, ht, hs]
  exact if_neg hp

theorem Ev.tablePortLost_train (hr : e.consist.role = .lead) (ht : e.consist.table = some t)
    (hp : p ≠ t.toward) (hs : ∀ k, e.consist.sweep ≠ .awaitReturn k) :
    e.tablePortLost p = if 1 < t.entries.length then e.askResweep else e := by
  unfold Ev.tablePortLost
  rw [hr, ht]
  refine (if_neg hp).trans ?_
  cases h : e.consist.sweep with
  | awaitReturn k => exact absurd h (hs k)
  | idle => rfl
  | resweepWait => rfl
  | carrying => rfl

theorem Ev.tablePortLost_none (ht : e.consist.table = none) : e.tablePortLost p = e := by
  unfold Ev.tablePortLost
  rw [ht]
  cases e.consist.role <;> rfl

theorem Ev.tablePortLost_alone (hr : e.consist.role = .alone) : e.tablePortLost p = e := by
  unfold Ev.tablePortLost
  rw [hr]

/-! ## A port that has entered UP (R26, R46) -/

theorem Ev.consistPortUp_away (ht : e.consist.table = some t) (hp : p ≠ t.toward) :
    e.consistPortUp p = e.join .newNeighbour := by
  unfold Ev.consistPortUp
  rw [ht]
  exact if_pos (eq_portOther_iff.mpr hp)

theorem Ev.consistPortUp_toward (ht : e.consist.table = some t) (hp : p = t.toward) :
    e.consistPortUp p =
      if e.consist.role = .lead then e.notice .cabEndCoupled (hiHalf (e.port p).nbrId) (loHalf (e.port p).nbrId)
      else e := by
  unfold Ev.consistPortUp
  rw [ht]
  exact if_neg fun h => eq_portOther_iff.mp h hp

theorem Ev.consistPortUp_none (ht : e.consist.table = none) : e.consistPortUp p = e := by
  unfold Ev.consistPortUp
  rw [ht]

end

theorem portReports_holds : Says.PortReports := by
  unfold Says.PortReports
  intro e p t ht hc c
  have hlost : e.consistPortLost p = e.tablePortLost p := Ev.consistPortLost_free hc
  have hidle : c.sweep = .idle → ∀ k, c.sweep ≠ .awaitReturn k := fun h k => by
    rw [h]
    exact SweepState.noConfusion
  refine ⟨fun hr hp => ?_, fun hr hp hl => ?_, fun hr hp hl => ?_, fun hr hp => hlost.trans (Ev.tablePortLost_cab hr ht hp),
    fun hr hp hs hl => ?_, fun hr hp hs hl => ?_, fun k hr hp hs => hlost.trans (Ev.tablePortLost_attempt hr ht hp hs),
    fun hr hp => (Ev.consistPortUp_toward ht hp).trans (if_pos hr),
    fun hr hp hs => (Ev.consistPortUp_away ht hp).trans ((Ev.join_lead _ hr).trans (Ev.askResweep_idle hs)),
    fun hr hp => (Ev.consistPortUp_toward ht hp).trans (if_neg ?_),
    fun hr hp => (Ev.consistPortUp_away ht hp).trans (Ev.join_follower _ hr ht)⟩
  · refine hlost.trans ((Ev.tablePortLost_follower hr ht).trans ((if_pos hp).trans ?_))
    rw [hp]
  · exact hlost.trans ((Ev.tablePortLost_follower hr ht).trans ((if_neg hp).trans ((if_pos hl).trans
      (Ev.sendBreak_eq ht))))
  · exact hlost.trans ((Ev.tablePortLost_follower hr ht).trans ((if_neg hp).trans (if_neg (by omega))))
  · exact hlost.trans ((Ev.tablePortLost_train hr ht hp (hidle hs)).trans ((if_pos hl).trans (Ev.askResweep_idle hs)))
  · refine hlost.trans ((Ev.tablePortLost_train hr ht hp fun k hk => ?_).trans (if_neg (by omega)))
    obtain hs | hs := hs
    · exact hidle hs k hk
    · exact absurd (hk.symm.trans hs) SweepState.noConfusion
  · rw [show e.consist.role = .follower from hr]
    decide

theorem portReportsAbsorbed_holds : Says.PortReportsAbsorbed := by
  unfold Says.PortReportsAbsorbed
  intro e p c
  refine ⟨fun t ht hc hr hp => ⟨fun hs => ?_, fun hs => ?_⟩, fun ht => ⟨Ev.consistPortUp_none ht, fun hc =>
    (Ev.consistPortLost_free hc).trans (Ev.tablePortLost_none ht)⟩⟩
  · have hbusy : e.askResweep = e := Ev.askResweep_busy (by
      rw [show e.consist.sweep = .resweepWait from hs]
      exact SweepState.noConfusion)
    refine (Ev.consistPortLost_free hc).trans ((Ev.tablePortLost_train hr ht hp fun k hk => ?_).trans ?_)
    · exact absurd (hk.symm.trans hs) SweepState.noConfusion
    · rw [hbusy, ite_self]
  · exact (Ev.consistPortUp_away ht hp).trans ((Ev.join_lead _ hr).trans (Ev.askResweep_busy hs))

/-! ## While a sweep is carried (R37) -/

theorem Ev.endCarry_eq (e : Ev) :
    e.endCarry = e.setConsist { e.consist with
      carry := none, pendingTable := none, carryT := .stopped
      sweep := if e.consist.sweep = .carrying then .idle else e.consist.sweep
      watchT := if e.consist.role = .follower then .running e.tick else e.consist.watchT } := rfl

theorem Ev.endCarry_role (e : Ev) : e.endCarry.consist.role = e.consist.role := rfl
theorem Ev.endCarry_table (e : Ev) : e.endCarry.consist.table = e.consist.table := rfl

/-- The loss of a port at a carrying car; its position stands. -/
theorem Ev.carryPortLost_eq {e : Ev} {p : Port} {k : Carry} (hc : e.consist.carry = some k) :
    e.carryPortLost p =
      if p = k.port then e.endCarry
      else if e.consist.pendingTable = none then
        (e.sendFamily k.port .sweepFail (identBytes k.leadId ++ [k.number, 3, byte k.pos])).endCarry
      else e := by
  unfold Ev.carryPortLost
  rw [hc]
  by_cases hp : p = k.port
  · rw [if_pos hp]
    exact if_pos hp.symm
  · rw [if_neg hp]
    refine (if_neg fun h => hp h.symm).trans ?_
    cases h : e.consist.pendingTable with
    | none => rfl
    | some xs => rfl

theorem Ev.carryPortLost_place (e : Ev) (p : Port) :
    (e.carryPortLost p).consist.role = e.consist.role ∧ (e.carryPortLost p).consist.table = e.consist.table := by
  cases hc : e.consist.carry with
  | none =>
    unfold Ev.carryPortLost
    rw [hc]
    exact ⟨rfl, rfl⟩
  | some k =>
    rw [Ev.carryPortLost_eq hc]
    split
    · exact ⟨rfl, rfl⟩
    · split
      · have hsent := (Ev.sendFamily_kept e k.port .sweepFail (identBytes k.leadId ++ [k.number, 3, byte k.pos])).consist
        exact ⟨(Ev.endCarry_role _).trans (congrArg Consist.role hsent),
          (Ev.endCarry_table _).trans (congrArg Consist.table hsent)⟩
      · exact ⟨rfl, rfl⟩

theorem portReportsCarrying_holds : Says.PortReportsCarrying := by
  unfold Says.PortReportsCarrying
  intro e p k hc hnl c ended after
  have hafter : e.carryPortLost p = after := by
    refine (Ev.carryPortLost_eq hc).trans ?_
    rw [Ev.endCarry_eq, Ev.endCarry_eq]
    have hsent := Ev.sendFamily_kept e k.port .sweepFail (identBytes k.leadId ++ [k.number, 3, byte k.pos])
    rw [hsent.consist]
  have hplace := Ev.carryPortLost_place e p
  rw [hafter] at hplace
  obtain ⟨hrole, htable⟩ := hplace
  have hlost : e.consistPortLost p = after.tablePortLost p := congrArg (fun e => Ev.tablePortLost e p) hafter
  refine ⟨fun hr => hlost.trans (Ev.tablePortLost_alone (hrole.trans hr)), fun t hr ht => ?_⟩
  have hfol := hlost.trans (Ev.tablePortLost_follower (hrole.trans hr) (htable.trans ht))
  refine ⟨fun hp => hfol.trans ((if_pos hp).trans ?_), fun hp hl => hfol.trans ((if_neg hp).trans ((if_pos hl).trans
    (Ev.sendBreak_eq (htable.trans ht)))), fun hp hl => hfol.trans ((if_neg hp).trans (if_neg (by omega))),
    fun hp => (Ev.consistPortUp_toward ht hp).trans (if_neg hnl),
    fun hp => (Ev.consistPortUp_away ht hp).trans (Ev.join_follower _ hr ht)⟩
  rw [hp]

/-- Settles O34: reports received and sent, and what the car reports of its own ports. -/
theorem portsAndReports : Obligations.PortsAndReports :=
  ⟨breakAndJoin_holds, reportsSent_holds, portReports_holds, portReportsAbsorbed_holds, portReportsCarrying_holds⟩

end Sys2Proof.Machine
end


section
/-! PROOF. Contact events and close limits (R90 to R92, R108, R109, R128). -/

namespace Sys2Proof.Machine

/-! ## What follows a change of the door records (R108, R128) -/

theorem doorStateNum_inj : Function.Injective doorStateNum := by
  intro a b
  cases a <;> cases b <;> decide

theorem flagNat_inj : Function.Injective flagNat := by
  intro a b
  cases a <;> cases b <;> decide

/-- The view of R108 as the record of what is shown. -/
theorem Blocks.doorView_iff (b c : Blocks) :
    b.doorView = c.doorView ↔
      (b.carDoors.map DoorRec.state, b.doors.left.release, b.doors.left.closeReq, b.doors.right.release,
        b.doors.right.closeReq, b.doors.latch) =
      (c.carDoors.map DoorRec.state, c.doors.left.release, c.doors.left.closeReq, c.doors.right.release,
        c.doors.right.closeReq, c.doors.latch) := by
  have hmap : ∀ b : Blocks, (b.carDoors.map fun d => doorStateNum d.state) =
      (b.carDoors.map DoorRec.state).map doorStateNum := fun b => by
    rw [List.map_map]
    rfl
  unfold Blocks.doorView
  rw [hmap, hmap]
  simp only [Prod.mk.injEq]
  constructor
  · intro h
    obtain ⟨hstates, hflags⟩ := List.append_inj' h rfl
    simp only [List.cons.injEq, flagNat_inj.eq_iff, and_true] at hflags
    exact ⟨doorStateNum_inj.list_map hstates, hflags⟩
  · rintro ⟨h1, h2, h3, h4, h5, h6⟩
    rw [h1, h2, h3, h4, h5, h6]

theorem Ev.doorsSettled_eq (e : Ev) (b : Blocks) :
    e.doorsSettled b =
      if e.toBlocks.boostCond = b.boostCond then (if e.toBlocks.doorView = b.doorView then e else e.ask .door)
      else (if e.toBlocks.doorView = b.doorView then e else e.ask .door).setDemand e.toBlocks.formDemand := by
  unfold Ev.doorsSettled Ev.recompute
  by_cases h : e.toBlocks.doorView = b.doorView
  · rw [if_pos h]
  · rw [if_neg h]
    rfl

theorem doorChangeFollows_holds : Says.DoorChangeFollows := by
  unfold Says.DoorChangeFollows
  intro e b view e1 open1
  have he1 : (if e.toBlocks.doorView = b.doorView then e else e.ask .door) = e1 := by
    exact if_congr (Blocks.doorView_iff _ _) rfl rfl
  rw [← he1]
  exact ⟨fun h => (Ev.doorsSettled_eq e b).trans (if_pos h), fun h => (Ev.doorsSettled_eq e b).trans (if_neg h)⟩

/-- Nothing follows where states, outputs and latch stand. -/
theorem Ev.doorsSettled_same {e : Ev} {b : Blocks} (hv : e.toBlocks.doorView = b.doorView)
    (hb : e.toBlocks.boostCond = b.boostCond) : e.doorsSettled b = e :=
  (Ev.doorsSettled_eq e b).trans ((if_pos hb).trans (if_pos hv))

/-! ## The close limit (R91) -/

section
variable {e : Ev} {x : Side} {d : Fin 4}

theorem Ev.closeLimit_due {limit : Word} (hd : d.val < e.profile.doorCount x)
    (hs : ((e.doors.side x).doors.get d).state = .closing)
    (hl : ((e.doors.side x).doors.get d).limitDue = some limit) :
    e.closeLimit x d =
      ((e.setDoors (e.doors.setSide x ((e.doors.side x).setDoor d
        { (e.doors.side x).doors.get d with state := .late, limitDue := none }))).notice .doorLate
          (hiLo (sideNum x) (d.val + 1)) limit).publishNow .door := by
  unfold Ev.closeLimit
  dsimp only
  rw [hl]
  exact if_pos ⟨decide_eq_true hd, hs⟩

theorem Ev.closeLimit_notDue (h : e.profile.doorCount x ≤ d.val ∨
    ((e.doors.side x).doors.get d).state ≠ .closing ∨ ((e.doors.side x).doors.get d).limitDue = none) :
    e.closeLimit x d = e := by
  unfold Ev.closeLimit
  dsimp only
  cases hl : ((e.doors.side x).doors.get d).limitDue with
  | none => rfl
  | some limit =>
    refine if_neg fun ⟨hc, hs⟩ => ?_
    have hd : d.val < e.profile.doorCount x := of_decide_eq_true hc
    rcases h with h | h | h
    · omega
    · exact h hs
    · exact absurd (hl.symm.trans h) (Option.some_ne_none _)

end

theorem closeLimit_holds : Says.CloseLimit := by
  unfold Says.CloseLimit
  intro x d s r y late
  refine ⟨fun limit hd hs hl => ?_, fun h => congrArg Host.Outcome.next (runEvent_stays (Ev.closeLimit_notDue h))⟩
  have hrun := runEvent_leaving (s := s) (g := fun e => e.closeLimit x d)
    (Ev.closeLimit_due (e := Ev.start s.blk) hd hs hl)
  exact congrArg Host.Outcome.next hrun

/-! ## A contact makes (R90, R92) -/

theorem Ev.makeContact_configured {e : Ev} {x : Side} {d : Fin 4} (hd : d.val < e.profile.doorCount x) :
    e.makeContact x d = (e.setDoors (e.doors.setSide x (((e.doors.side x).setDoor d
      ((e.doors.side x).doors.get d).makes).examine (e.profile.doorCount x)))).doorsSettled e.toBlocks :=
  if_pos (decide_eq_true hd)

theorem Ev.makeContact_unconfigured {e : Ev} {x : Side} {d : Fin 4} (hd : e.profile.doorCount x ≤ d.val) :
    e.makeContact x d = e.setDoors (e.doors.setSide x ((e.doors.side x).setDoor d
      { (e.doors.side x).doors.get d with contact := true })) :=
  if_neg fun h => absurd (of_decide_eq_true h : d.val < e.profile.doorCount x) (by omega)

/-! ## A contact opens (R90) -/

theorem Quad.map_set {α β : Type} (f : α → β) (q : Quad α) (i : Fin 4) (a : α) (h : f a = f (q.get i)) :
    (q.set i a).toList.map f = q.toList.map f := by
  match i, h with
  | 0, h | 1, h | 2, h | 3, h =>
    simp only [Quad.toList, List.map_cons, List.map_nil, Quad.set, h]
    rfl

/-- The states of a side stand when a door's record keeps its own. -/
theorem SideRec.setDoor_states {r : SideRec} {d : Fin 4} {y : DoorRec} (h : y.state = (r.doors.get d).state) (n : Nat) :
    ((r.setDoor d y).configured n).map DoorRec.state = (r.configured n).map DoorRec.state := by
  unfold SideRec.configured
  rw [List.map_take, List.map_take]
  exact congrArg (List.take n) (Quad.map_set DoorRec.state r.doors d y h)

theorem Blocks.boostCond_states (b : Blocks) :
    b.boostCond = (b.carDoors.map DoorRec.state).any fun z => z == .opened || z == .forced := by
  rw [List.any_map]
  rfl

/-- Door states, outputs and latch stand when a door's record keeps its state. -/
theorem Ev.setDoor_settled {e : Ev} {x : Side} {d : Fin 4} {y : DoorRec}
    (h : y.state = ((e.doors.side x).doors.get d).state) :
    (e.setDoors (e.doors.setSide x ((e.doors.side x).setDoor d y))).doorsSettled e.toBlocks =
      e.setDoors (e.doors.setSide x ((e.doors.side x).setDoor d y)) := by
  have hstates : (e.setDoors (e.doors.setSide x ((e.doors.side x).setDoor d y))).carDoors.map DoorRec.state =
      e.carDoors.map DoorRec.state := by
    unfold Blocks.carDoors
    rw [List.map_append, List.map_append]
    cases x with
    | left => exact congrArg (· ++ _) (SideRec.setDoor_states h _)
    | right => exact congrArg (_ ++ ·) (SideRec.setDoor_states h _)
  refine Ev.doorsSettled_same ((Blocks.doorView_iff _ _).mpr ?_) ?_
  · rw [hstates]
    cases x <;> rfl
  · rw [Blocks.boostCond_states, Blocks.boostCond_states, hstates]

theorem Ev.contactOpens_closed {e : Ev} {x : Side} {d : Fin 4} {y : DoorRec} (hd : d.val < e.profile.doorCount x)
    (hs : ((e.doors.side x).doors.get d).state = .closed)
    (hy : (e.doors.side x).derive { (e.doors.side x).doors.get d with contact := false } = y) :
    e.contactOpens x d =
      (if y.state = .forced then
        (e.setDoors (e.doors.setSide x ((e.doors.side x).setDoor d y))).noteForced x d
      else e.setDoors (e.doors.setSide x ((e.doors.side x).setDoor d y))).doorsSettled e.toBlocks := by
  rw [← hy]
  exact if_pos ⟨decide_eq_true hd, hs⟩

theorem Ev.contactOpens_level {e : Ev} {x : Side} {d : Fin 4}
    (h : e.profile.doorCount x ≤ d.val ∨ ((e.doors.side x).doors.get d).state ≠ .closed) :
    e.contactOpens x d = e.setDoors (e.doors.setSide x ((e.doors.side x).setDoor d
      { (e.doors.side x).doors.get d with contact := false })) :=
  if_neg fun ⟨hc, hs⟩ => h.elim
    (fun h => absurd (of_decide_eq_true hc : d.val < e.profile.doorCount x) (by omega)) fun h => h hs

theorem contactEvents_holds : Says.ContactEvents := by
  unfold Says.ContactEvents
  intro x d s n made examined r y with' opened
  have hlevel : (n ≤ d.val ∨ y.state ≠ .closed) → (Ev.start s.blk).contactOpens x d =
      (Ev.start s.blk).setDoors (s.blk.doors.setSide x (with' { y with contact := false })) :=
    fun h => Ev.contactOpens_level (e := Ev.start s.blk) h
  refine ⟨fun hd => ⟨congrArg Host.Outcome.next (runEvent_doing ?_), congrArg Host.Outcome.next (runEvent_doing ?_)⟩,
    fun hd => ⟨congrArg Host.Outcome.next ?_, congrArg Host.Outcome.next ?_⟩⟩
  · have hex : ∀ q : SideRec, (q.setDoor d (q.doors.get d).makes).examine n = examined q := fun q => by
      have hmade : (q.doors.get d).makes = made (q.doors.get d) := by
        unfold DoorRec.makes
        dsimp only [made]
        cases (q.doors.get d).state <;> rfl
      rw [SideRec.examine_eq, hmade]
      rfl
    refine (Ev.makeContact_configured (by rw [Ev.closeLimit_profile]; exact hd)).trans ?_
    rw [Ev.closeLimit_profile]
    exact congrArg (fun q => Ev.doorsSettled (((Ev.start s.blk).closeLimit x d).setDoors
      (((Ev.start s.blk).closeLimit x d).doors.setSide x q)) _) (hex _)
  · by_cases hs : y.state = .closed
    · have hopened : r.derive { y with contact := false } = opened := (if_neg (not_not.mpr hs)).symm
      refine (Ev.contactOpens_closed (e := Ev.start s.blk) hd hs hopened).trans ?_
      exact congrArg (fun e => Ev.doorsSettled e s.blk) (if_congr (iff_and_self.mpr fun _ => hs) rfl rfl)
    · have hopened : opened = { y with contact := false } := if_pos hs
      have hsame := Ev.setDoor_settled (e := Ev.start s.blk) (x := x) (d := d) (y := { y with contact := false }) rfl
      refine (hlevel (.inr hs)).trans (hsame.symm.trans ?_)
      rw [hopened]
      exact congrArg (fun e => Ev.doorsSettled e s.blk) (if_neg fun h => hs h.1).symm
  · have hstill : (Ev.start s.blk).closeLimit x d = Ev.start s.blk := Ev.closeLimit_notDue (.inl hd)
    have hrun := runEvent_leaving (s := s) (g := fun e => e.contactMakes x d)
      ((congrArg (fun e => Ev.makeContact e x d) hstill).trans (Ev.makeContact_unconfigured hd))
    exact hrun
  · exact runEvent_leaving (s := s) (g := fun e => e.contactOpens x d) (hlevel (.inl hd))

/-! ## Limits taken (R91) -/

/-- An event whose record is that of a start, after the effects it has had. -/
theorem Ev.doorsSettled_effects (e : Ev) (b : Blocks) (xs : List Effect) :
    Ev.doorsSettled { e with effects := xs } b = { e.doorsSettled b with effects := xs } := by
  rw [Ev.doorsSettled_eq, Ev.doorsSettled_eq]
  by_cases hb : e.toBlocks.boostCond = b.boostCond <;> by_cases hv : e.toBlocks.doorView = b.doorView
  · rw [if_pos hb, if_pos hv, if_pos hb, if_pos hv]
  · rw [if_pos hb, if_neg hv, if_pos hb, if_neg hv]
    rfl
  · rw [if_neg hb, if_pos hv, if_neg hb, if_pos hv]
    rfl
  · rw [if_neg hb, if_neg hv, if_neg hb, if_neg hv]
    rfl

theorem Ev.doorsSettled_effects_eq (e : Ev) (b : Blocks) : (e.doorsSettled b).effects = e.effects := by
  rw [Ev.doorsSettled_eq]
  split <;> split <;> rfl

/-- A contact make emits nothing of its own. -/
theorem Ev.makeContact_start (b : Blocks) (xs : List Effect) (x : Side) (d : Fin 4) :
    Ev.makeContact { Ev.start b with effects := xs } x d = { (Ev.start b).makeContact x d with effects := xs } := by
  by_cases hd : d.val < b.profile.doorCount x
  · have hwith := Ev.makeContact_configured (e := { Ev.start b with effects := xs }) hd
    have hwithout := Ev.makeContact_configured (e := Ev.start b) hd
    have hsettled := Ev.doorsSettled_effects ((Ev.start b).setDoors (b.doors.setSide x (((b.doors.side x).setDoor d
      ((b.doors.side x).doors.get d).makes).examine (b.profile.doorCount x)))) b xs
    exact hwith.trans (hsettled.trans (congrArg (fun e : Ev => { e with effects := xs }) hwithout.symm))
  · have hle : b.profile.doorCount x ≤ d.val := by omega
    have hwith := Ev.makeContact_unconfigured (e := { Ev.start b with effects := xs }) hle
    have hwithout := Ev.makeContact_unconfigured (e := Ev.start b) hle
    exact hwith.trans (congrArg (fun e : Ev => { e with effects := xs }) hwithout.symm)

theorem Ev.makeContact_start_effects (b : Blocks) (x : Side) (d : Fin 4) :
    ((Ev.start b).makeContact x d).effects = [] := by
  by_cases hd : d.val < b.profile.doorCount x
  · rw [Ev.makeContact_configured (e := Ev.start b) hd, Ev.doorsSettled_effects_eq]
    rfl
  · have hle : b.profile.doorCount x ≤ d.val := by omega
    rw [Ev.makeContact_unconfigured (e := Ev.start b) hle]
    rfl

theorem Iface.applyAll_append (m : Memory) (i : Iface) (xs ys : List Effect) :
    i.applyAll m (xs ++ ys) = (i.applyAll m xs).applyAll m ys := List.foldl_append

/-- Two events in a row are one, where the first asked for no page at its end and the second emits nothing. -/
theorem State.finish_finish (s : State) {e e' : Ev} (ha : e.asks = []) (he : e'.effects = []) :
    (s.finish e).finish e' = s.finish { e' with effects := e.effects } := by
  have hall : e.allEffects ++ e'.allEffects = Ev.allEffects { e' with effects := e.effects } := by
    have hpub : e.publications = [] := by
      unfold Ev.publications
      rw [ha]
      rfl
    unfold Ev.allEffects
    rw [hpub, he, List.append_nil, List.nil_append]
    rfl
  unfold State.finish
  dsimp only
  rw [← Iface.applyAll_append, hall]

/-- A door whose limit has been taken is not due again. -/
theorem Ev.closeLimit_twice (b : Blocks) (x : Side) (d : Fin 4) :
    (Ev.start ((Ev.start b).closeLimit x d).toBlocks).closeLimit x d =
      Ev.start ((Ev.start b).closeLimit x d).toBlocks := by
  by_cases h : b.profile.doorCount x ≤ d.val ∨
      ((b.doors.side x).doors.get d).state ≠ .closing ∨ ((b.doors.side x).doors.get d).limitDue = none
  · have hstay : (Ev.start b).closeLimit x d = Ev.start b := Ev.closeLimit_notDue h
    rw [hstay]
    exact hstay
  · push Not at h
    obtain ⟨hd, hs, hl⟩ := h
    obtain ⟨limit, hlimit⟩ := Option.ne_none_iff_exists'.mp hl
    rw [Ev.closeLimit_due (e := Ev.start b) hd hs hlimit]
    refine Ev.closeLimit_notDue (.inr (.inr ?_))
    refine (congrArg (fun r : SideRec => (r.doors.get d).limitDue) (Doors.side_setSide b.doors x _)).trans ?_
    exact congrArg DoorRec.limitDue (SideRec.setDoor_get (b.doors.side x) d _)

theorem limitsTaken_holds : Says.LimitsTaken := by
  unfold Says.LimitsTaken
  refine ⟨fun e x d => ?_, fun e x => ⟨rfl, rfl⟩, fun x d s t h => ?_⟩
  · exact ⟨fun limit hd hs hl => Ev.closeLimit_due hd hs hl, Ev.closeLimit_notDue⟩
  · obtain rfl : s.finish ((Ev.start s.blk).closeLimit x d) = t := Host.Outcome.next.inj h
    have hasks : ((Ev.start s.blk).closeLimit x d).asks = [] := (Ev.closeLimit_frame _ x d).2
    have hlate : (Ev.start s.blk).closeLimit x d = { Ev.start ((Ev.start s.blk).closeLimit x d).toBlocks with
        effects := ((Ev.start s.blk).closeLimit x d).effects } := congrArg (Ev.mk _ _) hasks
    refine congrArg Host.Outcome.next (Eq.symm ?_)
    refine (congrArg (State.finish _) (congrArg (fun e => Ev.makeContact e x d)
      (Ev.closeLimit_twice s.blk x d))).trans ?_
    refine (State.finish_finish s hasks (Ev.makeContact_start_effects _ x d)).trans (congrArg s.finish ?_)
    refine (Ev.makeContact_start _ _ x d).symm.trans ?_
    exact congrArg (fun e => Ev.makeContact e x d) hlate.symm

/-- Settles O35: contacts, close limits, and what follows a change of the doors. -/
theorem doorContacts : Obligations.DoorContacts :=
  ⟨contactEvents_holds, closeLimit_holds, limitsTaken_holds, doorChangeFollows_holds⟩

end Sys2Proof.Machine
end


section
/-! PROOF. A side closed, released, withdrawn (R95 to R99, R109, R184). -/

namespace Sys2Proof.Machine

theorem Quad.get_mapFirst {α : Type} (n : Nat) (g : α → α) (q : Quad α) (d : Fin 4) :
    (q.mapFirst n g).get d = if d.val < n then g (q.get d) else q.get d := by
  match d with
  | 0 | 1 | 2 | 3 => rfl

/-! ## CLOSE (R92, R95) -/

theorem DoorRec.close_eq (y : DoorRec) :
    y.close = if y.state = .opened ∨ y.state = .forced then { y with state := .closing, timer := 0, limitDue := none }
      else y := by
  unfold DoorRec.close
  cases y.state <;> rfl

theorem SideRec.close_doors (r : SideRec) (n : Nat) : (r.close n).doors = r.doors.mapFirst n DoorRec.close := by
  unfold SideRec.close
  rw [SideRec.examine_eq]

/-- The close request that a close leaves. -/
theorem SideRec.close_closeReq_iff (r : SideRec) (n : Nat) :
    (r.close n).closeReq = true ↔ ∃ y ∈ (r.close n).configured n, y.state ≠ .closed ∧ y.state ≠ .isolated := by
  unfold SideRec.configured
  rw [SideRec.close_doors]
  unfold SideRec.close
  rw [SideRec.examine_eq, Bool.true_and, List.any_eq_true]
  refine exists_congr fun y => and_congr_right fun _ => ?_
  rw [Bool.and_eq_true, bne_iff_ne, bne_iff_ne]

theorem doorSideClosed_holds : Says.DoorSideClosed := by
  unfold Says.DoorSideClosed
  intro e x n r
  refine ⟨r.close n, rfl, ?_, ?_, SideRec.close_closeReq_iff r n, fun d => ?_⟩
  · unfold SideRec.close
    rw [SideRec.examine_eq]
  · unfold SideRec.close
    rw [SideRec.examine_eq]
  · rw [SideRec.close_doors, Quad.get_mapFirst, DoorRec.close_eq]
    exact (ite_and ..).symm

/-! ## RELEASE (R96 to R98) -/

theorem DoorRec.release_eq (y : DoorRec) :
    y.release = if y.state = .closing ∨ y.state = .late ∨ y.state = .forced then { y with state := .opened }
      else y := by
  unfold DoorRec.release
  cases y.state <;> rfl

section
variable {e : Ev} {x : Side} {flag : Bool} {basis : Basis} {src : ReleaseSource}

theorem Ev.releaseSide_ok {b : Basis} (hn : e.profile.doorCount x ≠ 0)
    (h : e.toBlocks.motionCondition flag basis = .ok b) :
    e.releaseSide x flag basis src = (e.admitRelease x b, none) := by
  unfold Ev.releaseSide
  rw [if_neg hn, h]

theorem Ev.releaseSide_error {why : ResultCode} (hn : e.profile.doorCount x ≠ 0)
    (h : e.toBlocks.motionCondition flag basis = .error why) :
    e.releaseSide x flag basis src =
      (((e.setDoors { e.doors with latch := true }).noteRefused src why x).doorsSettled e.toBlocks, some why) := by
  unfold Ev.releaseSide
  rw [if_neg hn, h]

end

/-- The words of DOOR_REFUSED (R109, R184). -/
theorem Ev.noteRefused_eq (e : Ev) (src : ReleaseSource) (why : ResultCode) (x : Side) :
    e.noteRefused src why x = match src with
      | .telegram side given => e.notice .doorRefused (word (16384 * 1 + 256 * resultCodeNum why + sideNum x))
          (word (256 * motionStateNum e.motion.state + 16 * side + flagNat given))
      | .command => e.notice .doorRefused (word (16384 * 2 + 256 * resultCodeNum why + sideNum x))
          (word (256 * motionStateNum e.motion.state)) := by
  unfold Ev.noteRefused
  cases src <;> simp only [Nat.mul_comm]

theorem doorSideReleased_holds : Says.DoorSideReleased := by
  unfold Says.DoorSideReleased
  intro e x flag basis src n m e0 admitted told refused
  have hadmit : n ≠ 0 → ∀ b, e.toBlocks.motionCondition flag basis = .ok b → admitted b := fun hn b h => by
    refine ⟨(e0.doors.side x).doRelease (e0.profile.doorCount x) b, Ev.releaseSide_ok hn h, rfl, rfl, rfl,
      fun d => ?_⟩
    refine (Quad.get_mapFirst _ _ _ d).trans ?_
    have hcount : e0.profile.doorCount x = n := by rw [(Ev.sideLimits_frame e x).1]
    rw [hcount, DoorRec.release_eq]
    exact (ite_and ..).symm
  have hrefuse : n ≠ 0 → ∀ why, e.toBlocks.motionCondition flag basis = .error why → refused why := fun hn why h => by
    refine (Ev.releaseSide_error hn h).trans ?_
    refine congrArg (fun e1 => (Ev.doorsSettled e1 e.toBlocks, some why)) ?_
    refine (Ev.noteRefused_eq _ src why x).trans ?_
    cases src <;> rfl
  refine ⟨fun hn => if_pos hn, fun hn => ⟨fun hm => hadmit hn _ ?_, fun hm => hrefuse hn _ ?_, fun hm => hrefuse hn _ ?_,
    fun hm hf => hadmit hn _ ?_, fun hm hf => hrefuse hn _ ?_⟩⟩
  all_goals unfold Blocks.motionCondition
  · rw [show e.motion.state = .stopped from hm]
  · rw [show e.motion.state = .moving from hm]
  · obtain hm | hm := hm <;> rw [show e.motion.state = _ from hm]
  · rw [show e.motion.state = .unfitted from hm, hf]
    rfl
  · rw [show e.motion.state = .unfitted from hm, hf]
    rfl

/-! ## Withdrawal (R99) -/

theorem withdrawal_holds : Says.Withdrawal := by
  unfold Says.Withdrawal
  intro e l r nl nr stillOpen
  refine ⟨fun hl hr => if_neg fun h => ?_, fun h => (if_pos h).trans rfl⟩
  rw [show e.doors.left.release = false from hl, show e.doors.right.release = false from hr] at h
  exact h.elim Bool.noConfusion Bool.noConfusion

/-- Settles O36: a side closed, released, and its release withdrawn. -/
theorem doorSides : Obligations.DoorSides :=
  ⟨doorSideClosed_holds, doorSideReleased_holds, withdrawal_holds⟩

end Sys2Proof.Machine
end


section
/-! PROOF. A DOOR telegram (R94, R101, R53 to R57). -/

namespace Sys2Proof.Machine

theorem Blocks.localSide_table {b : Blocks} {t : LiveTable} (h : b.consist.table = some t) (x : Side) :
    b.localSide x = if t.toward = .p2 then otherSide x else x := by
  unfold Blocks.localSide Blocks.orientation
  rw [h]
  cases ht : t.toward with
  | p1 => exact (congrArg (fun o : Option Port => match o with | some .p2 => otherSide x | some .p1 | none => x)
      (congrArg some ht)).trans rfl
  | p2 => exact (congrArg (fun o : Option Port => match o with | some .p2 => otherSide x | some .p1 | none => x)
      (congrArg some ht)).trans rfl

section
variable {e : Ev} {action side flag : Byte}

theorem Ev.takeDoor_close {ss : List Side} (ha : action = 2) (hs : sidesOf side.toNat = some ss) :
    e.takeDoor [action, side, flag] = e.closeSides (ss.map e.toBlocks.localSide) := by
  unfold Ev.takeDoor parseDoor
  dsimp only
  rw [ha, hs]
  cases ss with
  | nil => rfl
  | cons x xs => cases xs <;> rfl

theorem Ev.takeDoor_release {x : Side} (ha : action = 1) (hs : sidesOf side.toNat = some [x]) :
    e.takeDoor [action, side, flag] =
      (e.releaseSide (e.toBlocks.localSide x) (flag.getLsbD 0) .flag
        (.telegram (sideNum x) (flag.getLsbD 0))).1 := by
  unfold Ev.takeDoor parseDoor
  dsimp only
  rw [ha, hs]
  rfl

theorem Ev.takeDoor_ignored
    (h : (action ≠ 1 ∧ action ≠ 2) ∨ sidesOf side.toNat = none ∨ (action = 1 ∧ side = 3)) :
    e.takeDoor [action, side, flag] = e := by
  unfold Ev.takeDoor parseDoor
  dsimp only
  split
  · next x ha hs =>
    have haction : action = 1 := BitVec.eq_of_toNat_eq ha
    rcases h with h | h | h
    · exact absurd haction h.1
    · exact absurd (hs.symm.trans h) (Option.some_ne_none _)
    · rw [h.2] at hs
      cases hs
  · next ss ha hs =>
    have haction : action = 2 := BitVec.eq_of_toNat_eq ha
    rcases h with h | h | h
    · exact absurd haction h.2
    · exact absurd (hs.symm.trans h) (Option.some_ne_none _)
    · rw [haction] at h
      exact absurd h.1 (by decide)
  · rfl

end

/-- A telegram of the live generation takes its route in every mode. -/
theorem Ev.arrive_routed {e : Ev} {p : Port} {t : Telegram} {k : Sane} {tb : LiveTable}
    (hh : e.toBlocks.hears p t k) (ht : e.consist.table = some tb) (ha : tb.admits p t k) :
    e.arrive p t = e.route tb p k t := by
  by_cases hm : k.mode = .neighbour
  · obtain ⟨hf, hgen, -⟩ := ha
    have hroute : e.route tb p k t = e.handOff p k.kind t := by
      refine (Ev.route_here (by rw [hm]; rfl)).trans (if_neg ?_)
      rw [hm]
      exact Bool.false_ne_true
    refine (Ev.arrive_heard hh).trans (Eq.trans ?_ hroute.symm)
    unfold Ev.arriveSane
    rw [hf, Blocks.genOk_table ht, hgen, beq_self_eq_true, if_neg (by decide), if_pos rfl, ht]
    exact if_pos hm
  · exact Ev.arrive_admitted hh ht ha hm

theorem doorElsewhere_holds : Says.DoorElsewhere := by
  unfold Says.DoorElsewhere
  intro p t k tb s hh hk ht ha hhere onward
  have harr := Ev.arrive_routed (e := Ev.start s.blk) hh ht ha
  refine ⟨fun ho => congrArg Host.Outcome.next (runEvent_doing (harr.trans (Ev.route_on ?_ hhere ho))),
    fun ho => congrArg Host.Outcome.next (runEvent_doing (harr.trans (Ev.route_none hhere ho)))⟩
  rw [hk]
  decide

theorem doorAddressed_holds : Says.DoorAddressed := by
  unfold Says.DoorAddressed
  intro p t k tb s action side flag hh hk ht ha hp hhere run turned here
  have hrow : ∀ g : Ev → Ev, (Ev.start s.blk).takeDoor [action, side, flag] = g (Ev.start s.blk) → run g := fun g hg => by
    refine congrArg Host.Outcome.next (runEvent_doing ((Ev.arrive_routed hh ht ha).trans ((Ev.route_here hhere).trans ?_)))
    have hoff : (Ev.start s.blk).handOff p k.kind t = (g (Ev.start s.blk)).offer (portNum p) t := by
      unfold Ev.handOff
      rw [hk, ← hg, ← hp]
      rfl
    rw [hoff]
  have hside : ∀ x, (Ev.start s.blk).localSide x = here x := fun x => (Blocks.localSide_table ht x).trans (by
    dsimp only [here]
    cases x <;> rfl)
  have hclose : ∀ ss, action = 2 → sidesOf side.toNat = some ss → (Ev.start s.blk).takeDoor [action, side, flag] =
      (Ev.start s.blk).closeSides (ss.map here) := fun ss h2 hs => by
    rw [Ev.takeDoor_close h2 hs, funext hside]
  refine ⟨fun h2 hs => hrow _ ?_, fun h2 hs => hrow _ ?_, fun h2 hs => hrow _ ?_, fun x h1 hs => hrow _ ?_,
    fun h => hrow _ (Ev.takeDoor_ignored ?_)⟩
  · exact (hclose [.left] h2 (by rw [hs]; rfl)).trans rfl
  · exact (hclose [.right] h2 (by rw [hs]; rfl)).trans rfl
  · exact (hclose [.left, .right] h2 (by rw [hs]; rfl)).trans rfl
  · rw [Ev.takeDoor_release h1 (hs ▸ sidesOf_sideNum x), hside x]
  · rcases h with h | h | h | h
    · exact .inl h
    · exact .inr (.inl (sidesOf_none (.inl (by rw [h]; decide))))
    · exact .inr (.inl (sidesOf_none (.inr h)))
    · exact .inr (.inr h)

/-- Settles O37: a DOOR telegram at a car of its range and at any other. -/
theorem doorTelegram : Obligations.DoorTelegram :=
  ⟨doorAddressed_holds, doorElsewhere_holds⟩

end Sys2Proof.Machine
end


section
/-! PROOF. Transitions counted, and the window end (R75 to R81, R83 to R86). -/

namespace Sys2Proof.Machine

/-! ## Transitions (R76 to R78) -/

theorem transitionCount_eq (refA refB : Bool) (ph : EncPhase) :
    transitionCount refA refB ph =
      if (refA, refB, (if ph = .a then !refA else refA), (if ph = .b then !refB else refB)) ∈
        [(false, false, true, false), (true, false, true, true), (true, true, false, true),
         (false, true, false, false)] then 1 else -1 := by
  cases ph <;> cases refA <;> cases refB <;> rfl

theorem Motion.follow_eq (m : Motion) (ph : EncPhase) :
    m.follow ph = { m with refA := if ph = .a then !m.refA else m.refA
                           refB := if ph = .b then !m.refB else m.refB } := by
  cases ph <;> rfl

theorem Motion.transition_unfitted {m : Motion} (h : m.state = .unfitted) (ph : EncPhase) :
    m.transition ph = m.follow ph := by
  unfold Motion.transition
  rw [h]

theorem Motion.transition_counts {m : Motion} (h : m.state ≠ .unfitted) (ph : EncPhase) :
    m.transition ph = (m.addCount (transitionCount m.refA m.refB ph)).follow ph := by
  unfold Motion.transition
  cases hs : m.state with
  | unfitted => exact absurd hs h
  | unknown | stopped | moving | faulted => rfl

theorem Motion.addCount_follow (m : Motion) (c : Int) (ph : EncPhase) :
    (m.addCount c).follow ph =
      if m.count + c < -32767 ∨ 32767 < m.count + c then { m.follow ph with saturated := true }
      else { m.follow ph with count := m.count + c } := by
  unfold Motion.addCount
  split <;> cases ph <;> rfl

theorem encoderTransition_holds : Says.EncoderTransition := by
  unfold Says.EncoderTransition
  intro ph s m a b plus c m1
  refine congrArg (fun x => Host.Outcome.next (s.after { s.blk with motion := x } [])) ?_
  have hfollow : m.follow ph = m1 := Motion.follow_eq m ph
  have hc : m.count + transitionCount m.refA m.refB ph = c := congrArg (m.count + ·) (transitionCount_eq _ _ _)
  by_cases h : m.state = .unfitted
  · exact (Motion.transition_unfitted h ph).trans (hfollow.trans (if_pos h).symm)
  · refine (Motion.transition_counts h ph).trans ((Motion.addCount_follow ..).trans (Eq.trans ?_ (if_neg h).symm))
    rw [hc, hfollow]

theorem Motion.illegalTransition_eq (m : Motion) :
    m.illegalTransition =
      match m.state with
      | .unfitted => { m with refA := !m.refA, refB := !m.refB }
      | .faulted => { m with refA := !m.refA, refB := !m.refB, illegal := satInc m.illegal, clean := 0 }
      | .unknown | .stopped | .moving => { m with refA := !m.refA, refB := !m.refB, illegal := satInc m.illegal } := by
  obtain ⟨state⟩ := m
  cases state <;> rfl

theorem illegalTransition_holds : Says.IllegalTransition := by
  unfold Says.IllegalTransition
  intro s m m1 n
  refine congrArg (fun x => Host.Outcome.next (s.after { s.blk with motion := x } [])) ?_
  have hn : satInc m.illegal = n := satInc_eq _
  exact (Motion.illegalTransition_eq m).trans (hn ▸ rfl)

/-! ## The window end (R79 to R81, R84) -/

section
variable {m : Motion} {z : Nat}

theorem Motion.evaluate_unfitted (h : m.state = .unfitted) : m.evaluate z = m := by
  unfold Motion.evaluate
  rw [h]

theorem Motion.evaluate_faulted (h : m.state = .faulted) :
    m.evaluate z =
      if m.lastIllegal.toNat ≠ 0 then { m with clean := 0 }
      else if m.clean < 9 then { m with clean := m.clean + 1 }
      else { m with clean := 10, state := .unknown, quiet := 0 } := by
  unfold Motion.evaluate Motion.recover
  rw [h]
  have hzero : m.lastIllegal = 0 ↔ ¬ m.lastIllegal.toNat ≠ 0 :=
    ⟨fun h => by rw [h]; decide, fun h => BitVec.eq_of_toNat_eq (not_not.mp h)⟩
  by_cases hi : m.lastIllegal = 0
  · exact (if_pos hi).trans (if_neg (hzero.mp hi)).symm
  · exact (if_neg hi).trans (if_pos (not_not.mp fun h => hi (hzero.mpr h))).symm

theorem Motion.evaluate_stopped (h : m.state = .stopped) :
    m.evaluate z =
      if 4 < m.lastIllegal.toNat then { m with state := .faulted, quiet := 0, clean := 0 }
      else if z < m.lastDelta.natAbs then { m with state := .moving, quiet := 0 }
      else m := by
  have hdec : m.evaluate z = m.decide z := by
    unfold Motion.evaluate
    rw [h]
  rw [hdec]
  unfold Motion.decide
  rw [if_pos h]

theorem Motion.evaluate_going (h : m.state = .unknown ∨ m.state = .moving) :
    m.evaluate z =
      if 4 < m.lastIllegal.toNat then { m with state := .faulted, quiet := 0, clean := 0 }
      else if z < m.lastDelta.natAbs then { m with state := .moving, quiet := 0 }
      else if m.quiet < 2 then { m with quiet := m.quiet + 1 }
      else { m with quiet := 3, state := .stopped } := by
  have hnot : m.state ≠ .stopped := by
    obtain h | h := h <;> rw [h] <;> decide
  have hdec : m.evaluate z = m.decide z := by
    unfold Motion.evaluate
    obtain h | h := h <;> rw [h]
  rw [hdec]
  unfold Motion.decide
  rw [if_neg hnot]
  rfl

theorem Motion.evaluate_eq (m : Motion) (z : Nat) :
    m.evaluate z =
      match m.state with
      | .unfitted => m
      | .faulted =>
        if m.lastIllegal.toNat ≠ 0 then { m with clean := 0 }
        else if m.clean < 9 then { m with clean := m.clean + 1 }
        else { m with clean := 10, state := .unknown, quiet := 0 }
      | .stopped =>
        if 4 < m.lastIllegal.toNat then { m with state := .faulted, quiet := 0, clean := 0 }
        else if z < m.lastDelta.natAbs then { m with state := .moving, quiet := 0 }
        else m
      | .unknown | .moving =>
        if 4 < m.lastIllegal.toNat then { m with state := .faulted, quiet := 0, clean := 0 }
        else if z < m.lastDelta.natAbs then { m with state := .moving, quiet := 0 }
        else if m.quiet < 2 then { m with quiet := m.quiet + 1 }
        else { m with quiet := 3, state := .stopped } := by
  obtain ⟨state⟩ := m
  cases state with
  | unfitted => exact Motion.evaluate_unfitted rfl
  | faulted => exact Motion.evaluate_faulted rfl
  | stopped => exact Motion.evaluate_stopped rfl
  | unknown => exact Motion.evaluate_going (.inl rfl)
  | moving => exact Motion.evaluate_going (.inr rfl)

/-- A window's evaluation keeps what the window has shown. -/
theorem Motion.evaluate_last (m : Motion) (z : Nat) :
    (m.evaluate z).lastDelta = m.lastDelta ∧ (m.evaluate z).lastIllegal = m.lastIllegal := by
  cases h : m.state with
  | unfitted => rw [Motion.evaluate_unfitted h]; exact ⟨rfl, rfl⟩
  | faulted => rw [Motion.evaluate_faulted h]; split <;> [skip; split] <;> exact ⟨rfl, rfl⟩
  | stopped => rw [Motion.evaluate_stopped h]; split <;> [skip; split] <;> exact ⟨rfl, rfl⟩
  | unknown =>
    rw [Motion.evaluate_going (.inl h)]
    split <;> [skip; (split <;> [skip; split])] <;> exact ⟨rfl, rfl⟩
  | moving =>
    rw [Motion.evaluate_going (.inr h)]
    split <;> [skip; (split <;> [skip; split])] <;> exact ⟨rfl, rfl⟩

theorem trainDirection_some (h : m.state ≠ .unfitted) (p : Port) :
    trainDirection m (some p) =
      if m.lastDelta = 0 then .still
      else if (0 < m.lastDelta ∧ p = .p1) ∨ (m.lastDelta < 0 ∧ p = .p2) then .forward
      else .reverse := by
  unfold trainDirection
  rw [if_neg h]
  by_cases h0 : m.lastDelta = 0
  · exact (if_pos h0).trans (if_pos h0).symm
  · refine (if_neg h0).trans (Eq.trans (if_congr ?_ rfl rfl) (if_neg h0).symm)
    rw [eq_iff_iff]
    cases p with
    | p1 => simp
    | p2 =>
      simp
      omega

end

theorem windowRecord_holds : Says.WindowRecord := by
  unfold Says.WindowRecord
  intro m z o w moved ill judged dir
  have hj : m.closeWindow.evaluate z = judged := (Motion.evaluate_eq m.closeWindow z).trans rfl
  have hlast : judged.lastDelta = m.count := by
    rw [← hj]
    exact (Motion.evaluate_last m.closeWindow z).1
  have hdir : trainDirection judged o = dir := by
    dsimp only [dir]
    cases o with
    | none =>
      unfold trainDirection
      exact ite_self _
    | some p =>
      by_cases hu : judged.state = .unfitted
      · exact (if_pos hu).trans (if_pos hu).symm
      · refine (trainDirection_some hu p).trans (Eq.trans ?_ (if_neg hu).symm)
        rw [hlast]
  unfold Motion.windowEnd
  dsimp only
  rw [hj, hdir]

theorem Motion.windowEnd_last (m : Motion) (z : Nat) (o : Option Port) :
    (m.windowEnd z o).lastDelta = m.count ∧ (m.windowEnd z o).lastIllegal = m.illegal :=
  Motion.evaluate_last m.closeWindow z

theorem Ev.withdraw_motion (e : Ev) : e.withdraw.motion = e.motion := by
  unfold Ev.withdraw
  dsimp only
  split
  · rw [(Ev.doorsSettled_kept _ _).motion]
    rfl
  · rfl

theorem Ev.motionSignal_motion (e : Ev) (old : MotionState) : (e.motionSignal old).motion = e.motion := by
  unfold Ev.motionSignal
  split
  · exact Ev.withdraw_motion e
  · rfl

/-- The signal and the notice of a window end, by the states before and after it. -/
theorem Ev.endWindow_eq (e : Ev) :
    e.endWindow =
      let m := e.motion
      let m1 := m.windowEnd e.profile.z e.toBlocks.orientation
      let e0 := e.setMotion m1
      let e1 := if m.state = .stopped ∧ m1.state ≠ .stopped then e0.withdraw else e0
      let e2 := if m.state ≠ .faulted ∧ m1.state = .faulted then
          e1.notice .encoderFault (hiLo (motionStateNum m.state) (min 255 m.illegal.toNat)) (BitVec.ofInt 16 m.count)
        else e1
      e2.ask .motion := by
  obtain ⟨hdelta, hillegal⟩ := Motion.windowEnd_last e.motion e.profile.z e.toBlocks.orientation
  unfold Ev.endWindow Ev.noteEncoder
  dsimp only
  rw [Ev.motionSignal_motion, show (e.setMotion (e.motion.windowEnd e.profile.z e.toBlocks.orientation)).motion =
    e.motion.windowEnd e.profile.z e.toBlocks.orientation from rfl, hdelta, hillegal]
  rfl

theorem windowEnd_holds : Says.WindowEnd := by
  unfold Says.WindowEnd
  intro s m m1
  refine ⟨fun h => congrArg Host.Outcome.next (runEvent_stays (if_neg ?_)),
    fun h => congrArg Host.Outcome.next (runEvent_doing ((if_pos h).trans ?_))⟩
  · rw [show (Ev.start s.blk).motion.windowDue = false from h]
    decide
  · exact Ev.endWindow_eq (Ev.start s.blk)

/-- Settles O38: transitions counted, and the window end. -/
theorem motionCounter : Obligations.MotionCounter :=
  ⟨encoderTransition_holds, illegalTransition_holds, windowRecord_holds, windowEnd_holds⟩

end Sys2Proof.Machine
end


section
/-! PROOF. How a train door total is made, checked and judged (R113 to R118), and a SUMMARY telegram (R54, R55, R115 to R117). -/

namespace Sys2Proof.Machine

/-! ## Contribution (R113, R114) -/

/-- An entry of the open list, by what it drops. -/
theorem Total.enter_eq {t : Total} (h : t.list.length ≤ 4) (q : Nat) :
    t.enter q = { t with list := (q :: t.list).take 4, more := t.more || decide (t.list.length = 4) } := by
  unfold Total.enter
  rw [List.length_cons]
  by_cases hfull : t.list.length = 4
  · rw [if_pos (by omega), decide_eq_true hfull, Bool.or_true]
  · rw [if_neg (by omega), decide_eq_false hfull, Bool.or_false, List.take_of_length_le (by rw [List.length_cons]; omega)]

theorem contribution_holds : Says.Contribution := by
  unfold Says.Contribution
  intro b t hlist opens faults q
  have hopens : b.openDoors = opens := rfl
  have hfaults : b.faultedDoors = faults := rfl
  unfold Blocks.contribute
  dsimp only
  rw [hopens, hfaults]
  by_cases h : opens = 0
  · rw [if_pos h, if_pos h, decide_eq_false (not_not.mpr h), Bool.false_and, Bool.or_false]
  · rw [if_neg h, if_neg h, decide_eq_true h, Bool.true_and]
    exact Total.enter_eq (t := { t with
      covered := t.covered + 1, openCount := t.openCount + opens, faulted := t.faulted + faults
      refused := t.refused + flagNat b.doors.latch }) hlist q

theorem ascending_iff (xs : List Nat) : ascending xs = true ↔ xs.Pairwise (· < ·) := by
  rw [← List.isChain_iff_pairwise]
  fun_induction ascending xs with
  | case1 => exact ⟨fun _ => .nil, fun _ => rfl⟩
  | case2 a => exact ⟨fun _ => .singleton a, fun _ => rfl⟩
  | case3 a b rest ih => rw [Bool.and_eq_true, decide_eq_true_iff, ih, List.isChain_cons_cons]

theorem openListAscends_holds : Says.OpenListAscends := by
  unfold Says.OpenListAscends
  intro t q hasc hlen hall hmore r
  have hr : r = { t with list := (q :: t.list).take 4, more := t.more || decide (t.list.length = 4) } :=
    Total.enter_eq hlen q
  have hsub : ((q :: t.list).take 4).Sublist (q :: t.list) := List.take_sublist 4 _
  rw [hr]
  refine ⟨?_, ?_, rfl, fun p hp => ?_, fun h => ?_, fun h => ?_⟩
  · exact (ascending_iff _).mpr (List.Pairwise.sublist hsub (List.pairwise_cons.mpr ⟨hall, (ascending_iff _).mp hasc⟩))
  · exact List.length_take_le 4 _
  · rcases List.mem_cons.mp (hsub.mem hp) with rfl | hp
    · exact Nat.le_refl _
    · exact Nat.le_of_lt (hall p hp)
  · have hfull : t.list.length = 4 := by
      rw [Bool.or_eq_true, decide_eq_true_iff] at h
      exact h.elim hmore id
    rw [List.length_take, List.length_cons, hfull]
    rfl
  · rw [h, Bool.true_or]

theorem judgement_holds : Says.Judgement := fun _ _ => rfl

/-! ## The content conditions (R115) -/

theorem summaryOk_iff (q n src k : Nat) (t : Total) :
    summaryOk q n src t k = true ↔
      src = q + 1 ∧ t.beacon.toNat ≤ 59999 ∧ 1 ≤ t.covered ∧ t.covered ≤ n - q ∧ t.faulted ≤ t.openCount ∧
        t.openCount ≤ 8 * t.covered ∧ t.refused ≤ t.covered ∧ k ≤ 4 ∧ ascending t.list = true ∧
        (∀ p ∈ t.list, q + 1 ≤ p ∧ p ≤ n) ∧ t.list.length ≤ t.openCount ∧ (t.more = true → t.list.length = 4) := by
  have hmore : (!t.more || t.list.length == 4) = true ↔ (t.more = true → t.list.length = 4) := by
    cases t.more <;> simp
  have hbeacon : t.beacon.toNat < Config.beaconModulus ↔ t.beacon.toNat ≤ 59999 := Nat.lt_succ_iff
  unfold summaryOk
  simp only [Bool.and_eq_true, beq_iff_eq, decide_eq_true_iff, List.all_eq_true, hmore, hbeacon, and_assoc]

theorem summaryConditions_holds : Says.SummaryConditions := by
  unfold Says.SummaryConditions
  intro b t x
  unfold Blocks.acceptedTotal
  cases hp : parseSummary t.payload with
  | none => exact ⟨fun h => absurd h.symm (Option.some_ne_none _), fun ⟨k, h, _⟩ => absurd h.symm (Option.some_ne_none _)⟩
  | some y =>
    obtain ⟨y, k⟩ := y
    dsimp only
    constructor
    · intro h
      split at h
      · next hok =>
        obtain rfl := Option.some.inj h
        exact ⟨k, rfl, (summaryOk_iff ..).mp hok⟩
      · cases h
    · rintro ⟨k', heq, hok⟩
      cases heq
      exact if_pos ((summaryOk_iff ..).mpr hok)

/-- Settles O40: the contribution, the open list, the judgement, and the content conditions. -/
theorem summaryTotals : Obligations.SummaryTotals :=
  ⟨contribution_holds, openListAscends_holds, judgement_holds, summaryConditions_holds⟩

/-! ## At the lead (R117) -/

theorem Blocks.timely_iff (b : Blocks) (n : Word) :
    b.timely n = true ↔ beaconLag b.consist.beaconNo n ≤ 2 ∧
      (b.summary.judged = true → beaconLag b.consist.beaconNo n <
        beaconLag b.consist.beaconNo b.summary.total.beacon) := by
  unfold Blocks.timely
  dsimp only
  rw [Bool.and_eq_true, decide_eq_true_iff]
  refine and_congr_right fun _ => ?_
  cases b.summary.judged <;> simp

section
variable {e : Ev} {t : Telegram}

theorem Ev.judgeArrival_none (h : e.toBlocks.acceptedTotal t = none) :
    e.judgeArrival t = e.setSummary { e.summary with malformed := satInc e.summary.malformed } := by
  unfold Ev.judgeArrival
  rw [h]

theorem Ev.judgeArrival_some {x : Total} (h : e.toBlocks.acceptedTotal t = some x) :
    e.judgeArrival t = if e.toBlocks.timely x.beacon then e.judge (e.toBlocks.contribute x)
      else e.setSummary { e.summary with late := satInc e.summary.late } := by
  unfold Ev.judgeArrival
  rw [h]

theorem Ev.takeSummary_lead (h : e.consist.role = .lead) : e.takeSummary t = e.judgeArrival t := if_pos h

theorem Ev.takeSummary_none (hr : e.consist.role ≠ .lead) (h : e.toBlocks.acceptedTotal t = none) :
    e.takeSummary t = e := by
  unfold Ev.takeSummary
  rw [if_neg hr, h]

theorem Ev.takeSummary_some {x : Total} (hr : e.consist.role ≠ .lead) (h : e.toBlocks.acceptedTotal t = some x) :
    e.takeSummary t = e.sendTotal x := by
  unfold Ev.takeSummary
  rw [if_neg hr, h]

end

/-- A SUMMARY from the train side reaches the summary block of every car, the lead last. -/
theorem Ev.route_summary_train {e : Ev} {tb : LiveTable} {p : Port} {k : Sane} {t : Telegram} (hk : k.kind = .summary)
    (hm : k.mode = .lead) (h1 : 1 ≤ tb.pos) (hp : p ≠ tb.toward) :
    e.route tb p k t = (e.takeSummary t).offer (portNum p) t := by
  have hoff : e.handOff p k.kind t = (e.takeSummary t).offer (portNum p) t := by
    unfold Ev.handOff
    rw [hk]
    rfl
  rw [← hoff]
  by_cases hpos : tb.pos = 1
  · refine (Ev.route_here (by rw [hm, addressed_lead_eq, hpos]; rfl)).trans (if_neg ?_)
    rw [hm, dueForward_lead_first _ _ hpos hp]
    exact Bool.false_ne_true
  · refine Ev.route_summary hk ?_ ?_
    · rw [hm, addressed_lead_eq, decide_eq_false hpos]
    · rw [hm, dueForward_lead_side _ _ (by omega) hp]

theorem summaryAtLead_holds : Says.SummaryAtLead := by
  unfold Says.SummaryAtLead
  intro p t k tb s hh hk hm ht ha hr hpos hp j last lag inc run
  have hrow : ∀ g : Ev → Ev, (Ev.start s.blk).judgeArrival t = g (Ev.start s.blk) → run g := fun g hg => by
    refine congrArg Host.Outcome.next (runEvent_doing ((Ev.arrive_routed hh ht ha).trans
      ((Ev.route_summary_train hk hm (by omega) hp).trans ?_)))
    rw [Ev.takeSummary_lead hr, hg]
  have hinc : ∀ w, satInc w = inc w := satInc_eq
  refine ⟨fun h => ?_, fun x hx => ?_⟩
  · have hnone := Ev.judgeArrival_none (e := Ev.start s.blk) h
    rw [hinc] at hnone
    exact hrow _ hnone
  · have hjudge := Ev.judgeArrival_some (e := Ev.start s.blk) hx
    have hlag : ∀ w, beaconLag s.blk.consist.beaconNo w = lag w := fun w => rfl
    have htimely := Blocks.timely_iff s.blk x.beacon
    rw [hlag, hlag] at htimely
    rw [hinc] at hjudge
    exact ⟨fun h => hrow _ (hjudge.trans (if_neg fun ht => h (htimely.mp ht))),
      fun h => hrow _ (hjudge.trans (if_pos (htimely.mpr h)))⟩

/-! ## At a follower (R115, R116) -/

/-- Below position 1 a telegram to the lead has no local copy (R60). -/
theorem Ev.originate_lead_remote {e : Ev} {tb : LiveTable} {o : Outgoing} (ht : e.consist.table = some tb)
    (hm : o.mode = .lead) (h2 : 2 ≤ tb.pos) : (e.originate o).2.localTel = none := by
  have hmode : (o.fillOpen e.origCount).mode = .lead := by
    unfold Outgoing.fillOpen
    rw [hm]
  unfold Ev.originate
  rw [ht]
  refine if_neg ?_
  rw [hmode]
  exact fun h => absurd (beq_iff_eq.mp h) (by omega)

theorem summaryContinued_holds : Says.SummaryContinued := by
  unfold Says.SummaryContinued
  intro p t k tb s hh hk hm ht ha hr hpos hp run
  have hrow : ∀ g : Ev → Ev, (Ev.start s.blk).takeSummary t = g (Ev.start s.blk) → run g := fun g hg => by
    refine congrArg Host.Outcome.next (runEvent_doing ((Ev.arrive_routed hh ht ha).trans
      ((Ev.route_summary_train hk hm (by omega) hp).trans ?_)))
    rw [hg]
  have hnl : (Ev.start s.blk).consist.role ≠ .lead := by
    rw [show (Ev.start s.blk).consist.role = .follower from hr]
    decide
  refine ⟨fun h => hrow _ (Ev.takeSummary_none hnl h), fun x hx => hrow _ ((Ev.takeSummary_some hnl hx).trans ?_)⟩
  exact Ev.sendTotal_remote (Ev.originate_lead_remote ht rfl hpos)

theorem summaryMisrouted_holds : Says.SummaryMisrouted := by
  unfold Says.SummaryMisrouted
  intro p t k tb s hh hk hm ht ha hp
  have hside : sideOk tb p t.hdr.srcPos.toNat = true := by
    obtain ⟨-, -, h⟩ := ha
    exact h (by rw [hm]; decide)
  have h2 : 2 ≤ tb.pos := by
    unfold sideOk at hside
    rw [if_pos hp, Bool.and_eq_true, decide_eq_true_iff, decide_eq_true_iff] at hside
    omega
  refine congrArg Host.Outcome.next (runEvent_doing ((Ev.arrive_routed hh ht ha).trans (Ev.route_none ?_ ?_)))
  · rw [hm, addressed_lead_eq, decide_eq_false (by omega)]
  · rw [hm, dueForward_lead_away _ _ (by omega) hp]

/-- Settles O41: a SUMMARY at the lead, at a follower, and from the wrong side. -/
theorem summaryTelegram : Obligations.SummaryTelegram :=
  ⟨summaryAtLead_holds, summaryContinued_holds, summaryMisrouted_holds⟩

end Sys2Proof.Machine
end


section
/-! PROOF. The expiry of the timers of the blocks' records (R38, R39, R41, R42, R47, R119, R155). -/

namespace Sys2Proof.Machine

theorem leadTimers_holds : Says.LeadTimers := by
  unfold Says.LeadTimers
  intro s c
  refine ⟨fun h => congrArg Host.Outcome.next (runEvent_stays ?_),
    fun a k t h hs ht => congrArg Host.Outcome.next (runEvent_doing ?_),
    fun h => congrArg Host.Outcome.next (runEvent_stays ?_),
    fun a h => congrArg Host.Outcome.next (runEvent_doing ?_),
    fun h => congrArg Host.Outcome.next (runEvent_stays ?_),
    fun a t h hs ht => congrArg Host.Outcome.next (runEvent_doing ?_)⟩
  · unfold Ev.returnExpiry
    rw [show (Ev.start s.blk).consist.returnT = .stopped from h]
  · unfold Ev.returnExpiry
    rw [show (Ev.start s.blk).consist.returnT = .running a from h,
      show (Ev.start s.blk).consist.sweep = .awaitReturn k from hs,
      show (Ev.start s.blk).consist.table = some t from ht]
  · unfold Ev.beaconExpiry
    rw [show (Ev.start s.blk).consist.periodT = .stopped from h]
    rfl
  · unfold Ev.beaconExpiry
    rw [show (Ev.start s.blk).consist.periodT = .running a from h]
    rfl
  · unfold Ev.settleExpiry
    rw [show (Ev.start s.blk).consist.settleT = .stopped from h]
  · unfold Ev.settleExpiry
    rw [show (Ev.start s.blk).consist.settleT = .running a from h,
      show (Ev.start s.blk).consist.sweep = .resweepWait from hs,
      show (Ev.start s.blk).consist.table = some t from ht]

theorem followerTimers_holds : Says.FollowerTimers := by
  unfold Says.FollowerTimers
  intro s c h
  refine ⟨fun ht => congrArg Host.Outcome.next (runEvent_stays ?_), fun a ht hs => congrArg Host.Outcome.next ?_,
    fun ht => congrArg Host.Outcome.next (runEvent_stays ?_),
    fun a t ht hr htab hs => congrArg Host.Outcome.next ?_⟩
  · unfold Ev.carryExpiry
    rw [show (Ev.start s.blk).consist.carryT = .stopped from ht]
    rfl
  · have hrun : (Ev.start s.blk).carryExpiry = (Ev.start s.blk).endCarry := by
      unfold Ev.carryExpiry
      rw [show (Ev.start s.blk).consist.carryT = .running a from ht]
      rfl
    have hidle : (if c.sweep = .carrying then SweepState.idle else c.sweep) = .idle := if_pos hs
    refine (runEvent_leaving (g := fun e => e.carryExpiry) hrun).trans ?_
    rw [Ev.endCarry_eq, show (Ev.start s.blk).consist = c from rfl, hidle]
    rfl
  · unfold Ev.watchExpiry
    rw [show (Ev.start s.blk).consist.watchT = .stopped from ht]
  · have hrun : (Ev.start s.blk).watchExpiry = (Ev.start s.blk).loseTable .beaconTimeout t := by
      unfold Ev.watchExpiry
      rw [show (Ev.start s.blk).consist.watchT = .running a from ht,
        show (Ev.start s.blk).consist.role = .follower from hr,
        show (Ev.start s.blk).consist.table = some t from htab]
    refine (runEvent_leaving (g := fun e => e.watchExpiry) hrun).trans ?_
    have hnot : c.sweep ≠ .carrying := by
      rw [hs]
      exact SweepState.noConfusion
    have hend : (Ev.start s.blk).consist.endCarry = { c with carry := none, pendingTable := none, carryT := .stopped } :=
      congrArg (fun w => { c with carry := none, pendingTable := none, carryT := .stopped, sweep := w }) (if_neg hnot)
    unfold Ev.loseTable
    rw [hend]
    rfl

theorem ageTimer_holds : Says.AgeTimer := by
  unfold Says.AgeTimer
  intro s
  refine ⟨fun h => congrArg Host.Outcome.next (runEvent_stays ?_), fun since h => congrArg Host.Outcome.next ?_⟩
  · unfold Ev.ageExpiry
    rw [show (Ev.start s.blk).summary.age = .stopped from h]
    rfl
  · have hrun : (Ev.start s.blk).ageExpiry = ((Ev.start s.blk).setSummary { s.blk.summary with
        result := .unknown .stale, age := .stopped }).ask .door := by
      unfold Ev.ageExpiry
      rw [show (Ev.start s.blk).summary.age = .running since from h]
      rfl
    exact runEvent_leaving (g := fun e => e.ageExpiry) hrun

/-- Settles O42: every timer of the blocks' records, running and stopped. -/
theorem timers : Obligations.Timers :=
  ⟨leadTimers_holds, followerTimers_holds, ageTimer_holds, silenceTimer_holds⟩

end Sys2Proof.Machine
end


section
/-! PROOF. Channel results, the ratio converter and the supply monitor (R124 to R126, R128, R130, R134 to R138, R160). -/

namespace Sys2Proof.Machine

/-! ## Channels (R126) -/

section
variable {c : Channel}

theorem Channel.result_valid (h : c.state ≠ .unused) (code : Word) :
    c.result (.valid code) = { state := .valid, code := code, run := 0, fault := .absent } := by
  unfold Channel.result
  cases hs : c.state with
  | unused => exact absurd hs h
  | noCode | valid | stale | unavailable => rfl

theorem Channel.result_failure (h : c.state ≠ .unused) (f : MeasFault) :
    c.result (.failure f) =
      { c with state := failedState c.state (min 5 (c.run + 1)), run := min 5 (c.run + 1), fault := f } := by
  unfold Channel.result
  cases hs : c.state with
  | unused => exact absurd hs h
  | noCode | valid | stale | unavailable => rfl

end

theorem failedState_min (st : ChanState) (run : Nat) : failedState st (min 5 run) = failedState st run := by
  have hlt : min 5 run < 5 ↔ run < 5 := by omega
  cases st with
  | noCode => exact if_congr hlt rfl rfl
  | stale => exact if_congr hlt rfl rfl
  | valid | unavailable | unused => rfl

/-- Settles O43: a channel after a result, by its state. -/
theorem channelResult : Obligations.ChannelResult := by
  unfold Obligations.ChannelResult
  intro c code f h _
  refine ⟨Channel.result_valid h code, (Channel.result_failure h f).trans ?_⟩
  rw [failedState_min]
  unfold failedState
  cases c.state <;> rfl

/-! ## Results (R128, R130, R136, R160) -/

theorem resultOfA_holds : Says.ResultOfA := fun _ _ => rfl

theorem resultOfB_holds : Says.ResultOfB := by
  unfold Says.ResultOfB
  intro e x _ b c h l clearing e1 enters e2 set
  have hheater : e2.heater = h := by
    dsimp only [e2]
    split <;> rfl
  have hprofile : e2.profile = e.profile := by
    dsimp only [e2]
    split <;> rfl
  have hchan : e2.converter.chB = c := by
    dsimp only [e2]
    split <;> rfl
  have hset : ∀ cause code, e2.setLatch cause code = set cause code := fun cause code => by
    unfold Ev.setLatch
    rw [hheater]
  refine congrArg (fun e => Ev.ask e .heat) (show e2.examineLatch b x = _ from ?_)
  unfold Ev.examineLatch
  cases x with
  | valid code =>
    dsimp only
    rw [hprofile, hheater, hset]
    unfold Ev.clearLatch
    rw [hheater]
  | failure f =>
    dsimp only
    rw [hchan, hheater, hset]
    refine if_congr ?_ rfl rfl
    rw [and_assoc, Bool.not_eq_true]

/-! ## The converter's rows (R124, R125, R138) -/

theorem Blocks.bInUse_iff (b : Blocks) : b.bInUse = true ↔ b.converter.chB.state ≠ .unused := bne_iff_ne

section
variable {e : Ev}

theorem Ev.refComplete_refA (h : e.converter.phase = .refA) (tb : BitVec 20) :
    e.refComplete tb = (e.setConverter { e.converter with tref := tb, refGood := true }).beginPhase .senseA := by
  unfold Ev.refComplete
  rw [h]
  rfl

theorem Ev.refComplete_refB (h : e.converter.phase = .refB) (tb : BitVec 20) :
    e.refComplete tb = (e.setConverter { e.converter with tref := tb, refGood := true }).beginPhase
      (if e.bInUse then .senseB else .refA) := by
  unfold Ev.refComplete
  rw [h]
  rfl

theorem Ev.refComplete_sense (h : e.converter.phase = .senseA ∨ e.converter.phase = .senseB) (tb : BitVec 20) :
    e.refComplete tb = e := by
  unfold Ev.refComplete
  obtain h | h := h <;> rw [h]

theorem Ev.refAbort_refA (h : e.converter.phase = .refA) :
    e.refAbort = ((e.countAbort (some .a)).resultA (.failure .reference)).beginPhase .refB := by
  unfold Ev.refAbort
  rw [h]

theorem Ev.refAbort_refB_used (h : e.converter.phase = .refB) (hu : e.bInUse = true) :
    e.refAbort = ((e.countAbort (some .b)).resultB (.failure .reference)).beginPhase .refA := by
  unfold Ev.refAbort Blocks.skippedChan
  rw [h]
  dsimp only
  rw [if_pos hu]

theorem Ev.refAbort_refB_unused (h : e.converter.phase = .refB) (hu : e.bInUse = false) :
    e.refAbort = (e.countAbort none).beginPhase .refA := by
  unfold Ev.refAbort Blocks.skippedChan
  rw [h]
  dsimp only
  rw [if_neg (by rw [hu]; decide)]

theorem Ev.refAbort_sense (h : e.converter.phase = .senseA ∨ e.converter.phase = .senseB) : e.refAbort = e := by
  unfold Ev.refAbort
  obtain h | h := h <;> rw [h]

theorem Ev.senseResult_senseA (h : e.converter.phase = .senseA) (x : ChanResult) :
    e.senseResult x = (e.resultA x).beginPhase .refB := by
  unfold Ev.senseResult
  rw [h]

theorem Ev.senseResult_senseB (h : e.converter.phase = .senseB) (x : ChanResult) :
    e.senseResult x = (e.resultB x).beginPhase .refA := by
  unfold Ev.senseResult
  rw [h]

theorem Ev.senseResult_ref (h : e.converter.phase = .refA ∨ e.converter.phase = .refB) (x : ChanResult) :
    e.senseResult x = e := by
  unfold Ev.senseResult
  obtain h | h := h <;> rw [h]

end

theorem converterRows_holds : Says.ConverterRows := by
  unfold Says.ConverterRows
  intro tb count s v inUse begins good n aborted result
  have hused : inUse → (Ev.start s.blk).bInUse = true := (Blocks.bInUse_iff s.blk).mpr
  have hunused : ¬ inUse → (Ev.start s.blk).bInUse = false := fun h =>
    Bool.eq_false_iff.mpr fun hu => h ((Blocks.bInUse_iff s.blk).mp hu)
  have hn : satInc v.refFaults = n := satInc_eq _
  have hab : ∀ ch : Option Chan,
      (Ev.start s.blk).countAbort ch = aborted (match ch with | some c => chanNum c | none => 0) (Ev.start s.blk) := by
    intro ch
    unfold Ev.countAbort
    dsimp only [aborted]
    rw [← hn]
    rfl
  have hgood : ∀ ph, (Ev.start s.blk).refComplete tb =
      ((Ev.start s.blk).setConverter { v with tref := tb, refGood := true }).beginPhase ph →
      exec (.referencePhaseComplete tb) s = .next (good ph) := fun ph h =>
    congrArg Host.Outcome.next (runEvent_leaving (g := fun e => e.refComplete tb) h)
  have habort : ∀ g : Ev → Ev, (Ev.start s.blk).refAbort = g (Ev.start s.blk) →
      exec .referenceAbort s = .next (s.does s.blk g) := fun g h => congrArg Host.Outcome.next (runEvent_doing h)
  have hsense : ∀ g : Ev → Ev, (Ev.start s.blk).senseResult result = g (Ev.start s.blk) →
      exec (.sensorPhaseEnd count) s = .next (s.does s.blk g) := fun g h =>
    congrArg Host.Outcome.next (runEvent_doing h)
  have hover : ∀ g : Ev → Ev, (Ev.start s.blk).senseResult (.failure .overflow) = g (Ev.start s.blk) →
      exec .measureOverflow s = .next (s.does s.blk g) := fun g h => congrArg Host.Outcome.next (runEvent_doing h)
  refine ⟨fun h => ⟨hgood _ (Ev.refComplete_refA h tb), habort _ ?_⟩,
    fun h hu => ⟨hgood _ ?_, habort _ ?_⟩, fun h hu => ⟨hgood _ ?_, habort _ ?_⟩,
    fun h => ⟨hsense _ (Ev.senseResult_senseA h _), hover _ (Ev.senseResult_senseA h _)⟩,
    fun h => ⟨hsense _ (Ev.senseResult_senseB h _), hover _ (Ev.senseResult_senseB h _)⟩,
    fun h => ⟨congrArg Host.Outcome.next (runEvent_stays (Ev.refComplete_sense h tb)),
      congrArg Host.Outcome.next (runEvent_stays (Ev.refAbort_sense h))⟩,
    fun h => ⟨congrArg Host.Outcome.next (runEvent_stays (Ev.senseResult_ref h _)),
      congrArg Host.Outcome.next (runEvent_stays (Ev.senseResult_ref h _))⟩⟩
  · rw [Ev.refAbort_refA (e := Ev.start s.blk) h, hab]
    rfl
  · rw [Ev.refComplete_refB (e := Ev.start s.blk) h, if_pos (hused hu)]
    rfl
  · rw [Ev.refAbort_refB_used (e := Ev.start s.blk) h (hused hu), hab]
    rfl
  · rw [Ev.refComplete_refB (e := Ev.start s.blk) h, if_neg (by rw [hunused hu]; decide)]
    rfl
  · rw [Ev.refAbort_refB_unused (e := Ev.start s.blk) h (hunused hu), hab]
    rfl

/-- Settles O44: the converter's results and its rows. -/
theorem converter : Obligations.Converter :=
  ⟨resultOfA_holds, resultOfB_holds, converterRows_holds⟩

/-! ## The supply monitor (R134, R135, R137) -/

section
variable {e : Ev} {c0 c1 c2 c3 : BitVec 12}

/-- The record of a completed scan. -/
def Monitor.scanned (m : Monitor) (c0 c1 c2 c3 : BitVec 12) : Monitor :=
  { m with scan := .idle, scanNo := m.scanNo + 1
           chans := { x0 := Machine.scanned m 0 c0 m.chans.x0, x1 := Machine.scanned m 1 c1 m.chans.x1
                      x2 := Machine.scanned m 2 c2 m.chans.x2, x3 := Machine.scanned m 3 c3 m.chans.x3 } }

theorem Ev.scanDone_idle (h : e.monitor.scan = .idle) : e.scanDone c0 c1 c2 c3 = e := by
  unfold Ev.scanDone
  rw [h]

theorem Ev.scanDone_once {i : Nat} {xs : List (BitVec 12)} (h : e.monitor.scan = .scanning i xs) (hm : e.monitor.mode = .once) :
    e.scanDone c0 c1 c2 c3 =
      (((e.setMonitor (e.monitor.scanned c0 c1 c2 c3)).publishNow .monitor).setMonitor
        { e.monitor.scanned c0 c1 c2 c3 with mode := .off, waitSlot := none }).complete e.monitor.waitSlot 1
          (e.monitor.scanNo + 1) 0 := by
  unfold Ev.scanDone Monitor.scanned
  rw [h]
  dsimp only
  rw [hm]
  rfl

theorem Ev.scanDone_other {i : Nat} {xs : List (BitVec 12)} (h : e.monitor.scan = .scanning i xs) (hm : e.monitor.mode ≠ .once) :
    e.scanDone c0 c1 c2 c3 = (e.setMonitor (e.monitor.scanned c0 c1 c2 c3)).publishNow .monitor := by
  unfold Ev.scanDone Monitor.scanned
  rw [h]
  dsimp only
  cases hmode : e.monitor.mode with
  | once => exact absurd hmode hm
  | off | continuous | onBeacon => rfl

end

theorem monitorScan_holds : Says.MonitorScan := by
  unfold Says.MonitorScan
  intro c0 c1 c2 c3 s m fresh m1 shown
  refine ⟨fun h => congrArg Host.Outcome.next (runEvent_stays (Ev.scanDone_idle h)), fun i xs h => ⟨fun hm => ?_,
    fun hm n hn => ?_, fun hm hn => ?_⟩, fun h => congrArg Host.Outcome.next (runEvent_stays ?_), fun since h => ?_⟩
  · have hrun := runEvent_leaving (s := s) (g := fun e => e.scanDone c0 c1 c2 c3)
      (Ev.scanDone_other (e := Ev.start s.blk) h hm)
    exact congrArg Host.Outcome.next hrun
  · have hdone := Ev.scanDone_once (e := Ev.start s.blk) (c0 := c0) (c1 := c1) (c2 := c2) (c3 := c3) h hm
    rw [show (Ev.start s.blk).monitor.waitSlot = some n from hn] at hdone
    have hrun := runEvent_leaving (s := s) (g := fun e => e.scanDone c0 c1 c2 c3) hdone
    exact congrArg Host.Outcome.next hrun
  · have hdone := Ev.scanDone_once (e := Ev.start s.blk) (c0 := c0) (c1 := c1) (c2 := c2) (c3 := c3) h hm
    rw [show (Ev.start s.blk).monitor.waitSlot = none from hn] at hdone
    have hwait : ({ m1 with mode := .off } : Monitor) = { m1 with mode := .off, waitSlot := none } :=
      congrArg (fun w => { m1 with mode := .off, waitSlot := w }) hn
    have hrun := runEvent_leaving (s := s) (g := fun e => e.scanDone c0 c1 c2 c3) hdone
    rw [hwait]
    exact congrArg Host.Outcome.next hrun
  · unfold Ev.periodExpiry
    rw [show (Ev.start s.blk).monitor.period = .stopped from h]
    rfl
  · have hperiod : (Ev.start s.blk).periodExpiry =
        ((Ev.start s.blk).setMonitor { m with period := .running s.blk.tick }).startScan := by
      unfold Ev.periodExpiry
      rw [show (Ev.start s.blk).monitor.period = .running since from h]
      rfl
    have hrun := runEvent_leaving (s := s) (g := fun e => e.periodExpiry) hperiod
    exact congrArg Host.Outcome.next hrun

theorem draw_holds : Says.Draw := by
  unfold Says.Draw
  intro b
  refine ⟨rfl, fun h => ?_⟩
  unfold Blocks.draw
  split
  · have hcode := b.monitor.chans.x1.code.isLt
    have hmul : b.monitor.chans.x1.code.toNat * b.profile.hcuScale ≤ 4095 * 400 :=
      Nat.mul_le_mul (by omega) h
    omega
  · omega

/-- Settles O45: scans, the period timer, and the draw. -/
theorem supplyMonitor : Obligations.SupplyMonitor :=
  ⟨monitorScan_holds, draw_holds⟩

end Sys2Proof.Machine
end


section
/-! PROOF. DEMAND, the allocation period, and GRANT (R142, R144 to R146, R149, R150, R154, R155, R162). -/

namespace Sys2Proof.Machine

/-! ## DEMAND at the lead (R142) -/

theorem length_listUpdate {α : Type} (g : α → α) (i : Nat) (xs : List α) : (listUpdate g i xs).length = xs.length := by
  induction xs generalizing i with
  | nil => cases i <;> rfl
  | cons x xs ih =>
    cases i with
    | zero => rfl
    | succ i => exact congrArg (· + 1) (ih i)

theorem getElem?_listUpdate {α : Type} (g : α → α) (i j : Nat) (xs : List α) :
    (listUpdate g i xs)[j]? = xs[j]?.map fun x => if j = i then g x else x := by
  induction xs generalizing i j with
  | nil => cases i <;> rfl
  | cons x xs ih =>
    cases i with
    | zero =>
      cases j with
      | zero => rfl
      | succ j =>
        refine Eq.symm ((Option.map_congr fun y _ => ?_).trans Option.map_id')
        exact if_neg (Nat.succ_ne_zero j)
    | succ i =>
      cases j with
      | zero => rfl
      | succ j =>
        refine (ih i j).trans (Option.map_congr fun y _ => ?_)
        exact if_congr (Nat.succ_inj (a := j) (b := i)).symm rfl rfl

section
variable {e : Ev} {t : Telegram} {b : DemandBody}

theorem DemandBody.ok_iff : b.ok = true ↔ b.draw.toNat ≤ 400 ∧ b.flags.toNat ≤ 3 := by
  unfold DemandBody.ok
  rw [Bool.and_eq_true, decide_eq_true_iff, decide_eq_true_iff]

theorem Ev.takeDemand_parsed (h : parseDemand t.payload = some b) :
    e.takeDemand t = if b.ok then e.updateEntry t.hdr.srcPos.toNat b
      else e.setAlloc { e.alloc with malformed := satInc e.alloc.malformed } := by
  unfold Ev.takeDemand
  rw [h]

end

/-- The source position of a telegram that arrives from the train side of an admitting car. -/
theorem LiveTable.admits_src {tb : LiveTable} {p : Port} {t : Telegram} {k : Sane} (h : tb.admits p t k)
    (hm : k.mode ≠ .neighbour) :
    (p = tb.toward → 1 ≤ t.hdr.srcPos.toNat ∧ t.hdr.srcPos.toNat < tb.pos) ∧
      (p ≠ tb.toward → tb.pos < t.hdr.srcPos.toNat ∧ t.hdr.srcPos.toNat ≤ tb.entries.length) := by
  obtain ⟨-, -, hside⟩ := h
  have hok := hside hm
  unfold sideOk at hok
  refine ⟨fun hp => ?_, fun hp => ?_⟩
  · rw [if_pos hp, Bool.and_eq_true, decide_eq_true_iff, decide_eq_true_iff] at hok
    exact hok
  · rw [if_neg hp, Bool.and_eq_true, decide_eq_true_iff, decide_eq_true_iff] at hok
    exact hok

/-- Settles O46: a DEMAND misrouted, carried on, discarded, and taken into its entry. -/
theorem demandTelegram : Obligations.DemandTelegram := by
  unfold Obligations.DemandTelegram
  intro p t k tb s d w0 w1 flags hh hk hm ht ha hpay
  have harr := Ev.arrive_routed (e := Ev.start s.blk) hh ht ha
  have hnm : k.mode ≠ .neighbour := by
    rw [hm]
    decide
  have hsum : k.kind ≠ .summary := by
    rw [hk]
    decide
  obtain ⟨htoward, haway⟩ := LiveTable.admits_src ha hnm
  have hrow : ∀ {b : Blocks} {g : Ev → Ev}, (Ev.start s.blk).route tb p k t = g (Ev.start b) →
      exec (.demandTelegram p t) s = .next (s.does b g) := fun hg =>
    congrArg Host.Outcome.next (runEvent_doing (harr.trans hg))
  refine ⟨fun hp => hrow ?_, fun hp => ?_⟩
  · have hsrc := htoward hp
    refine Ev.route_none ?_ ?_
    · rw [hm, addressed_lead_eq, decide_eq_false (by omega)]
    · rw [hm, dueForward_lead_away _ _ (by omega) hp]
  · have hsrc := haway hp
    intro draw a src
    refine ⟨fun h2 => hrow (Ev.route_on hsum ?_ ?_), fun h1 => ?_⟩
    · rw [hm, addressed_lead_eq, decide_eq_false (by omega)]
    · rw [hm, dueForward_lead_side _ _ h2 hp]
    · have htake : (Ev.start s.blk).route tb p k t = ((Ev.start s.blk).takeDemand t).offer (portNum p) t := by
        refine (Ev.route_here (by rw [hm, addressed_lead_eq, h1]; rfl)).trans ((if_neg ?_).trans ?_)
        · rw [hm, dueForward_lead_first _ _ h1 hp]
          exact Bool.false_ne_true
        · unfold Ev.handOff
          rw [hk]
          rfl
      have hparse : parseDemand t.payload = some { d := d, draw := draw, flags := flags } := by
        rw [hpay]
        rfl
      rw [Ev.takeDemand_parsed hparse] at htake
      have hok := DemandBody.ok_iff (b := { d := d, draw := draw, flags := flags })
      refine ⟨fun hbad => ?_, fun hd hf => ?_⟩
      · have hnot : ¬ DemandBody.ok { d := d, draw := draw, flags := flags } = true := fun h =>
          hbad.elim (Nat.not_lt.mpr (hok.mp h).1) (Nat.not_lt.mpr (hok.mp h).2)
        refine hrow (htake.trans ?_)
        rw [if_neg hnot, satInc_eq]
        rfl
      · refine ⟨{ a with table := a.table.map (listUpdate (fun x => x.take { d := d, draw := draw, flags := flags })
          (src - 1)) }, hrow (htake.trans ?_), rfl, fun hn => ?_, fun xs hxs => ?_⟩
        · rw [if_pos (hok.mpr ⟨hd, hf⟩)]
          rfl
        · exact congrArg (Option.map _) hn
        · refine ⟨_, congrArg (Option.map _) hxs, length_listUpdate _ _ _, fun i => ?_⟩
          refine (getElem?_listUpdate _ _ i xs).trans (Option.map_congr fun x _ => ?_)
          refine if_congr ?_ rfl rfl
          omega

/-! ## Entries and derating (R145, R146) -/

theorem entryUsed_holds : Says.EntryUsed := by
  unfold Says.EntryUsed
  intro x y
  refine ⟨fun h => if_pos h, fun h _ => if_neg (by rw [h]; decide), fun hd ha => ?_, fun hd ha => ?_, fun hd => ?_⟩
  · have hused : x.dUsed = x.d := (if_pos hd).trans (if_pos ha)
    exact ⟨hused, congrArg (min x.f) hused⟩
  · have hused : x.dUsed = min x.s x.d := (if_pos hd).trans (if_neg (by omega))
    exact ⟨hused, congrArg (min x.f) hused⟩
  · have hused : x.dUsed = x.s := if_neg (by rw [hd]; decide)
    exact ⟨hused, congrArg (min x.f) hused⟩

theorem derating_holds : Says.Derating := by
  unfold Says.Derating
  intro b vlow tlv
  have hbad : (!tlv.measured || decide (Config.tlvTicks < tlv.age.toNat)) = true ↔
      tlv.measured = false ∨ 100 < tlv.age.toNat := by
    rw [Bool.or_eq_true, Bool.not_eq_true', decide_eq_true_iff]
    rfl
  unfold derate
  refine ⟨fun h => if_pos h, fun h => ⟨fun hu => (if_neg h).trans (if_pos (hbad.mpr hu)), fun hm ha => ?_⟩⟩
  have hgood : ¬ (!tlv.measured || decide (Config.tlvTicks < tlv.age.toNat)) = true := fun hc =>
    (hbad.mp hc).elim (fun hf => absurd (hm.symm.trans hf) (by decide)) fun hlt => by omega
  exact ⟨fun hv => (if_neg h).trans ((if_neg hgood).trans (if_pos hv)),
    fun hv => (if_neg h).trans ((if_neg hgood).trans (if_neg (by omega)))⟩

/-! ## The allocation period (R144, R149, R150) -/

theorem flagNat_computed (c : GrantCase) :
    flagNat (LastPeriod.computed c = .computed .shortfall) = flagNat (c = .shortfall) := by
  cases c <;> rfl

theorem Alloc.outgoing_computed {a : Alloc} {c : GrantCase} {gs : List GrantLine} (hc : a.lastPeriod = .computed c)
    (hg : a.grants = some gs) :
    a.outgoing = { kind := .grant, cls := .power, mode := .all
                   payload := wordBytes a.number ++ wordBytes (word a.bEff) ++
                     [byte gs.length, byte (flagNat (c = .shortfall) + 2 * flagNat a.derateUnavailable)] ++
                     gs.map fun l => byte l.g } := by
  unfold Alloc.outgoing Alloc.grantFlags
  rw [hc, hg, flagNat_computed]
  rfl

theorem Ev.allocPeriod_set {e : Ev} (h : e.alloc.budgetSet = true) :
    e.allocPeriod = e.ageTable.computePeriod.ask .heat := if_pos h

theorem Ev.allocPeriod_unset {e : Ev} (h : e.alloc.budgetSet = false) :
    e.allocPeriod = (e.ageTable.setAlloc { e.ageTable.alloc with lastPeriod := .skippedUnset }).ask .heat :=
  if_neg (by rw [show e.ageTable.alloc.budgetSet = false from h]; decide)

theorem allocationPeriod_holds : Says.AllocationPeriod := by
  unfold Says.AllocationPeriod
  intro e n a aged
  refine ⟨fun h => if_neg h, fun hn hb => (if_pos hn).trans (Ev.allocPeriod_unset hb), fun hn hb => ?_⟩
  intro xs der c a1 gs x fate e1
  refine (if_pos hn).trans ((Ev.allocPeriod_set hb).trans (congrArg (fun e => Ev.ask e .heat) ?_))
  have hxs : aged.table.getD [] = xs := by
    dsimp only [aged, xs]
    cases a.table <;> rfl
  have hcomp : aged.compute e.monitor.chans.x0 = a1 := by
    unfold Alloc.compute
    dsimp only
    rw [hxs]
  have hout : (e.setAlloc a1).originate a1.outgoing = x :=
    congrArg (e.setAlloc a1).originate (Alloc.outgoing_computed (a := a1) (c := c) (gs := gs) rfl rfl)
  have hperiod : e.ageTable.computePeriod = e1.takeLocalGrant x.2.localTel := by
    unfold Ev.computePeriod
    rw [show e.ageTable.alloc.compute e.ageTable.monitor.chans.x0 = a1 from hcomp]
    dsimp only
    rw [show (e.ageTable.setAlloc a1).originate (e.ageTable.setAlloc a1).alloc.outgoing = x from hout]
    rfl
  refine hperiod.trans ?_
  unfold Ev.takeLocalGrant
  cases x.2.localTel <;> rfl

/-- Settles O48: the entries used, the derated budget, and the period. -/
theorem allocation : Obligations.Allocation :=
  ⟨entryUsed_holds, derating_holds, allocationPeriod_holds⟩

/-! ## GRANT (R154, R155, R162) -/

theorem GrantBody.fits_iff (g : GrantBody) (n : Nat) :
    g.fits n = true ↔ g.n.toNat = n ∧ g.grants.length = n ∧ g.flags.toNat ≤ 3 := by
  unfold GrantBody.fits
  rw [Bool.and_eq_true, Bool.and_eq_true, beq_iff_eq, beq_iff_eq, decide_eq_true_iff, and_assoc]

theorem Blocks.cars_some {b : Blocks} {t : LiveTable} (h : b.consist.table = some t) : b.cars = t.entries.length := by
  unfold Blocks.cars
  rw [h]

theorem Ev.takeGrant_parsed {e : Ev} {payload : List Byte} {g : GrantBody} (h : parseGrant payload = some g) :
    e.takeGrant payload = if g.fits e.cars then (e.setHeater (e.heater.take g e.pos)).ask .heat
      else e.setHeater { e.heater with malformed := satInc e.heater.malformed } := by
  unfold Ev.takeGrant
  rw [h]

theorem grantTelegram_holds : Says.GrantTelegram := by
  unfold Says.GrantTelegram
  intro p t k tb s a0 a1 b0 b1 n flags gs hh hk hm ht ha hpay h fits onward
  have hparse : parseGrant t.payload = some { number := packWord a0 a1, bEff := packWord b0 b1, n := n, flags := flags
                                              grants := gs } := by
    rw [hpay]
    rfl
  have hroute : (Ev.start s.blk).arrive p t = onward ((Ev.start s.blk).takeGrant t.payload) := by
    refine (Ev.arrive_routed hh ht ha).trans ((Ev.route_here (by rw [hm]; rfl)).trans ?_)
    unfold Ev.handOff
    rw [hk, hm]
    rfl
  have hfits := GrantBody.fits_iff { number := packWord a0 a1, bEff := packWord b0 b1, n := n, flags := flags
                                     grants := gs } tb.entries.length
  rw [Ev.takeGrant_parsed hparse, show (Ev.start s.blk).cars = tb.entries.length from Blocks.cars_some ht,
    show (Ev.start s.blk).pos = tb.pos from Blocks.pos_some ht] at hroute
  refine ⟨fun hf => congrArg Host.Outcome.next (runEvent_doing (hroute.trans ?_)),
    fun hf => congrArg Host.Outcome.next (runEvent_doing (hroute.trans ?_))⟩
  · rw [if_pos (hfits.mpr hf)]
    rfl
  · rw [if_neg fun hc => hf (hfits.mp hc), satInc_eq]
    rfl

theorem grantExpiry_holds : Says.GrantExpiry := by
  unfold Says.GrantExpiry
  intro s h b
  refine ⟨fun hs ha => ?_, fun hn => congrArg Host.Outcome.next (runEvent_stays (if_neg fun hc => ?_))⟩
  · have hrun := runEvent_leaving (s := s) (g := fun e => e.grantExpiry)
      (show (Ev.start s.blk).grantExpiry = _ from if_pos ⟨hs, ha⟩)
    exact congrArg Host.Outcome.next hrun
  · obtain ⟨hfresh, hage⟩ := hc
    exact hn.elim (fun hne => hne hfresh) (Nat.not_lt.mpr hage)

/-- Settles O49: a GRANT taken or counted malformed, and its lapse. -/
theorem grants : Obligations.Grants :=
  ⟨grantTelegram_holds, grantExpiry_holds⟩

end Sys2Proof.Machine
end


section
/-! PROOF. The heater cycle: its start, its on-counts and the pin (R156 to R160). -/

namespace Sys2Proof.Machine

/-! ## The start of a cycle (R156, R157, R159) -/

theorem Blocks.chooseDuty_eq (b : Blocks) :
    b.chooseDuty =
      if b.heater.latch then (0, .overtemp)
      else if b.heater.status = .fresh then (min b.heater.g.toNat b.demand.d.toNat, .grant)
      else (min b.profile.s b.demand.d.toNat, .standby) := by
  unfold Blocks.chooseDuty
  cases b.heater.status <;> rfl

theorem cycleStart_holds : Says.CycleStart := by
  unfold Says.CycleStart
  intro s h f d duty q n ls b
  have hduty : s.blk.chooseDuty = duty := Blocks.chooseDuty_eq s.blk
  refine ⟨fun hd => ?_, fun hd => congrArg Host.Outcome.next (runEvent_stays (if_neg ?_))⟩
  · have hstart : (Ev.start s.blk).cycleStart = ((Ev.start s.blk).setHeater b.heater).ask .heat := by
      refine (if_pos hd).trans (congrArg (fun h => ((Ev.start s.blk).setHeater h).ask .heat) ?_)
      show s.blk.newCycle = b.heater
      unfold Blocks.newCycle
      rw [hduty]
      rfl
    have hrun := runEvent_leaving (s := s) (g := fun e => e.cycleStart) hstart
    exact congrArg Host.Outcome.next hrun
  · rw [show (Ev.start s.blk).heater.cycleDue = false from hd]
    decide

/-! ## On-counts (R158) -/

theorem onCounts_length (m : HeaterMode) (duty : Nat) : (onCounts m duty).length = subCount m := by
  unfold onCounts
  rw [List.length_map, List.length_range]

theorem onCounts_getD {m : HeaterMode} {duty i : Nat} (h : i < subCount m) :
    (onCounts m duty).getD i 0 = duty / subCount m + if i < duty % subCount m then 1 else 0 := by
  unfold onCounts
  rw [List.getD_eq_getElem?_getD, List.getElem?_map, List.getElem?_range h]
  rfl

theorem onCounts_sum (m : HeaterMode) (duty : Nat) : (onCounts m duty).sum = duty := by
  cases m with
  | quad =>
    show duty / 4 + (if 0 < duty % 4 then 1 else 0) + (duty / 4 + (if 1 < duty % 4 then 1 else 0) +
      (duty / 4 + (if 2 < duty % 4 then 1 else 0) + (duty / 4 + (if 3 < duty % 4 then 1 else 0) + 0))) = duty
    split_ifs <;> omega
  | dual =>
    show duty / 2 + (if 0 < duty % 2 then 1 else 0) + (duty / 2 + (if 1 < duty % 2 then 1 else 0) + 0) = duty
    split_ifs <;> omega

/-- No on-count is longer than its sub-cycle. -/
theorem onCounts_le {m : HeaterMode} {duty i : Nat} (hd : duty ≤ 255) (h : i < subCount m) :
    (onCounts m duty).getD i 0 ≤ subLen m := by
  rw [onCounts_getD h]
  cases m with
  | quad =>
    show duty / 4 + (if i < duty % 4 then 1 else 0) ≤ 64
    split_ifs <;> omega
  | dual =>
    show duty / 2 + (if i < duty % 2 then 1 else 0) ≤ 128
    split_ifs <;> omega

theorem onCounts_holds : Says.OnCounts := by
  unfold Says.OnCounts
  intro m duty hd c subs len
  have hsubs : subs = subCount m := by cases m <;> rfl
  have hlen : len = subLen m := by cases m <;> rfl
  rw [hsubs, hlen]
  exact ⟨onCounts_length m duty, onCounts_sum m duty, fun i hi => ⟨onCounts_getD hi, onCounts_le hd hi⟩⟩

/-! ## The pin (R159, R160) -/

section
variable {h : Heater}

theorem Heater.htr_cut (hc : h.cut = true) : h.htr = false := by
  unfold Heater.htr
  rw [hc]
  rfl

/-- The slots are those of the sub-cycles. -/
theorem subCount_mul_subLen (m : HeaterMode) : subCount m * subLen m = 256 := by cases m <;> rfl

theorem subLen_pos (m : HeaterMode) : 0 < subLen m := by cases m <;> decide

/-- The pin in slot u of sub-cycle i. -/
theorem Heater.htr_slot {i u : Nat} (hc : h.cut = false) (ho : h.offset < subLen h.mode) (hi : i < subCount h.mode)
    (hu : u < subLen h.mode) :
    Heater.htr { h with slot := BitVec.ofNat 8 (i * subLen h.mode + u) } = true ↔
      (subLen h.mode - h.offset + u) % subLen h.mode < h.onCounts.getD i 0 := by
  have hslot : i * subLen h.mode + u < 256 := by
    calc i * subLen h.mode + u < i * subLen h.mode + subLen h.mode := Nat.add_lt_add_left hu _
      _ = (i + 1) * subLen h.mode := (Nat.succ_mul i _).symm
      _ ≤ subCount h.mode * subLen h.mode := Nat.mul_le_mul_right _ hi
      _ = 256 := subCount_mul_subLen h.mode
  have hdiv : (i * subLen h.mode + u) / subLen h.mode = i := by
    rw [Nat.mul_comm, Nat.mul_add_div (subLen_pos _), Nat.div_eq_of_lt hu, Nat.add_zero]
  have hmod : (i * subLen h.mode + u) % subLen h.mode = u := by
    rw [Nat.mul_comm, Nat.mul_add_mod, Nat.mod_eq_of_lt hu]
  unfold Heater.htr
  dsimp only
  rw [BitVec.toNat_ofNat, Nat.mod_eq_of_lt hslot, hdiv, hmod, hc, Bool.not_false, Bool.true_and, decide_eq_true_iff,
    show u + subLen h.mode - h.offset = subLen h.mode - h.offset + u by omega]

end

/-! ### Slots that are on, counted -/

theorem Nat.count_congr_lt {p q : Nat → Prop} [DecidablePred p] [DecidablePred q] {n : Nat} (h : ∀ k < n, p k ↔ q k) :
    Nat.count p n = Nat.count q n :=
  Nat.le_antisymm (Nat.count_mono_left fun k hk => (h k hk).mp) (Nat.count_mono_left fun k hk => (h k hk).mpr)

theorem count_lt_eq {c n : Nat} (h : c ≤ n) : Nat.count (· < c) n = c := by
  obtain ⟨m, rfl⟩ := Nat.exists_eq_add_of_le h
  rw [Nat.count_add, Nat.count_iff_forall.mpr fun _ hk => hk,
    Nat.count_iff_forall_not.mpr fun k _ => Nat.not_lt.mpr (Nat.le_add_right c k), Nat.add_zero]

/-- A window of one period holds each residue once, wherever it begins. -/
theorem count_mod_lt {len c : Nat} (a : Nat) (h : c ≤ len) : Nat.count (fun u => (a + u) % len < c) len = c := by
  have hwhole : Nat.count (fun v => v % len < c) len = c :=
    (Nat.count_congr_lt fun k hk => by rw [Nat.mod_eq_of_lt hk]).trans (count_lt_eq h)
  have hshift : Nat.count (fun u => (len + u) % len < c) a = Nat.count (fun v => v % len < c) a :=
    Nat.count_congr_lt fun k _ => by rw [Nat.add_mod_left]
  have hfront := Nat.count_add (fun v => v % len < c) len a
  have hback := Nat.count_add (fun v => v % len < c) a len
  rw [Nat.add_comm len a] at hfront
  omega

theorem count_blocks (p : Nat → Prop) [DecidablePred p] (len : Nat) (k : Nat) :
    Nat.count p (k * len) = ∑ i ∈ Finset.range k, Nat.count (fun u => p (i * len + u)) len := by
  induction k with
  | zero => rw [Nat.zero_mul, Nat.count_zero, Finset.sum_range_zero]
  | succ k ih => rw [Nat.succ_mul, Nat.count_add, ih, Finset.sum_range_succ]

theorem sum_range_getD (xs : List Nat) : ∑ i ∈ Finset.range xs.length, xs.getD i 0 = xs.sum := by
  induction xs with
  | nil => rfl
  | cons x xs ih =>
    rw [List.length_cons, Finset.sum_range_succ', List.sum_cons, ← ih, Nat.add_comm]
    rfl

/-- Over a whole cycle the pin is on for exactly the duty. -/
theorem Heater.htr_count {h : Heater} {duty : Nat} (hd : duty ≤ 255) (hc : h.cut = false)
    (hon : h.onCounts = Machine.onCounts h.mode duty) (ho : h.offset < subLen h.mode) :
    Nat.count (fun t => Heater.htr { h with slot := BitVec.ofNat 8 t } = true) 256 = duty := by
  have hsum := sum_range_getD (Machine.onCounts h.mode duty)
  rw [onCounts_length, onCounts_sum] at hsum
  rw [← subCount_mul_subLen h.mode, count_blocks]
  refine Eq.trans ?_ hsum
  refine Finset.sum_congr rfl fun i hi => ?_
  have hi' : i < subCount h.mode := Finset.mem_range.mp hi
  rw [← hon]
  refine (Nat.count_congr_lt fun u hu => Heater.htr_slot hc ho hi' hu).trans (count_mod_lt _ ?_)
  rw [hon]
  exact onCounts_le hd hi'

theorem heaterPin_holds : Says.HeaterPin := by
  unfold Says.HeaterPin
  intro h subs len
  have hsubs : subs = subCount h.mode := by
    dsimp only [subs]
    cases h.mode <;> rfl
  have hlen : len = subLen h.mode := by
    dsimp only [len]
    cases h.mode <;> rfl
  rw [hsubs, hlen]
  refine ⟨Heater.htr_cut, fun hc ho i hi u hu => (Heater.htr_slot hc ho hi hu).trans ?_, fun duty hd hc hon ho => ?_⟩
  · have hmod : ((u : Int) - h.offset) % (subLen h.mode : Int) =
        ((subLen h.mode - h.offset + u) % subLen h.mode : Nat) := by
      rw [Int.natCast_emod, Nat.cast_add, Nat.cast_sub ho.le, ← Int.add_emod_left (a := (subLen h.mode : Int))]
      congr 1
      omega
    rw [hmod, Nat.cast_lt]
  · rw [← List.countP_eq_length_filter]
    refine Eq.trans ?_ (Heater.htr_count hd hc hon ho)
    unfold Nat.count
    exact List.countP_congr fun t _ => by rw [decide_eq_true_iff]

/-- Settles O50: the cycle start, the on-counts, and the pin. -/
theorem heaterCycle : Obligations.HeaterCycle :=
  ⟨cycleStart_holds, onCounts_holds, heaterPin_holds⟩

end Sys2Proof.Machine
end


section
/-! PROOF. The tick (R75, R91, R132, R153, R155, R157, R164). -/

namespace Sys2Proof.Machine

theorem DoorRec.tick_eq (limit : Nat) (y : DoorRec) :
    y.tick limit =
      if y.state = .closing then
        { y with timer := satInc y.timer
                 limitDue := if limit ≤ (satInc y.timer).toNat then some (word limit) else none }
      else if y.state = .late then { y with timer := satInc y.timer }
      else y := by
  unfold DoorRec.tick
  cases y.state <;> rfl

theorem Heater.tick_eq (h : Heater) :
    h.tick = { h with age := satInc h.age, slot := h.slot + 1, cycleDue := decide (h.slot = 255) } := by
  have hslot : (h.slot + 1 == 0) = decide (h.slot = 255) := by
    rw [Bool.eq_iff_iff, beq_iff_eq, decide_eq_true_iff]
    bv_omega
  unfold Heater.tick
  rw [hslot]

theorem Motion.tick_eq (m : Motion) :
    m.tick = { m with windowTicks := (m.windowTicks + 1) % 10
                      windowDue := Decidable.decide ((m.windowTicks + 1) % 10 = 0) } := by
  unfold Motion.tick
  rw [beq_eq_decide]

/-- The doors of a side at a tick. -/
theorem Blocks.doorsTicked_get (b : Blocks) (x : Side) (d : Fin 4) :
    (b.doorsTicked.side x).doors.get d =
      if d.val < b.profile.doorCount x then ((b.doors.side x).doors.get d).tick b.profile.closeTicks
      else (b.doors.side x).doors.get d := by
  cases x <;> exact Quad.get_mapFirst _ _ _ d

theorem Monitor.tick_get (m : Monitor) (i : Fin 4) : m.tick.chans.get i = (m.chans.get i).tick := by
  match i with
  | 0 | 1 | 2 | 3 => rfl

/-- Settles O51: what a tick advances, the doors found due before it taken first. -/
theorem tick : Obligations.Tick := by
  unfold Obligations.Tick
  intro s
  have hframe := (Ev.closeLimits_frame (Ev.start s.blk)).1
  refine ⟨(Ev.start s.blk).closeLimits.doorsTicked, s.blk.monitor.tick.chans, ?_⟩
  intro inc h m old limit
  have hinc : ∀ w, satInc w = inc w := satInc_eq
  have hprofile : (Ev.start s.blk).closeLimits.profile = s.blk.profile := by rw [hframe]; rfl
  have htick : (Ev.start s.blk).closeLimits.tick = s.blk.tick := by rw [hframe]; rfl
  have hmotion : (Ev.start s.blk).closeLimits.motion = m := by rw [hframe]; rfl
  have hmonitor : (Ev.start s.blk).closeLimits.monitor = s.blk.monitor := by rw [hframe]; rfl
  have hheater : (Ev.start s.blk).closeLimits.heater = h := by rw [hframe]; rfl
  refine ⟨congrArg Host.Outcome.next (runEvent_doing ?_), rfl, fun x => ⟨?_, fun d => ?_⟩, fun i => ?_⟩
  · unfold Ev.tickAll Ev.timeBase
    rw [htick, hmotion, hmonitor, hheater, Motion.tick_eq, Heater.tick_eq, hinc]
    rfl
  · cases x <;> rfl
  · refine (Blocks.doorsTicked_get _ x d).trans ?_
    rw [hprofile, DoorRec.tick_eq, hinc]
    by_cases hd : d.val < s.blk.profile.doorCount x
    · simp only [hd, true_and, if_true]
      rfl
    · simp only [hd, false_and, if_false]
      rfl
  · refine (Monitor.tick_get s.blk.monitor i).trans ?_
    unfold SupplyChan.tick
    rw [hinc]

end Sys2Proof.Machine
end


section
/-! PROOF. What a telegram must pass on arrival (R14, R52 to R54). -/

namespace Sys2Proof.Machine

/-! ## The checks of header sanity (R52) -/

theorem legalLength_iff (k : Kind) (n : Nat) :
    legalLength k n = true ↔
      match k with
      | .sweep => 18 ≤ n ∧ n ≤ 390 ∧ (n - 6) % 12 = 0
      | .ret => 30 ≤ n ∧ n ≤ 390 ∧ (n - 6) % 12 = 0
      | .sweepFail | .confirm | .beacon => n = 7
      | .dissolve | .brk => n = 1
      | .join => n = 2
      | .door => n = 3
      | .summary => n = 14
      | .demand => n = 4
      | .grant => 7 ≤ n ∧ n ≤ 38
      | .data => n ≤ 464 := by
  unfold legalLength
  cases k with
  | sweep | ret =>
    dsimp only
    rw [Bool.and_eq_true, Bool.and_eq_true, decide_eq_true_iff, decide_eq_true_iff, decide_eq_true_iff, and_assoc]
  | grant =>
    dsimp only
    rw [Bool.and_eq_true, decide_eq_true_iff, decide_eq_true_iff]
  | data => exact decide_eq_true_iff
  | sweepFail | confirm | beacon | dissolve | brk | join | door | summary | demand => exact beq_iff_eq

theorem legalClassMode_iff (k : Kind) (c : Cls) (m : Mode) :
    legalClassMode k c m = true ↔
      match k with
      | .sweep | .ret | .sweepFail | .confirm | .dissolve => c = .control ∧ m = .neighbour
      | .beacon => c = .control ∧ m = .all
      | .brk | .join => c = .control ∧ m = .lead
      | .door => c = .safety ∧ (m = .range ∨ m = .all)
      | .summary => c = .safety ∧ m = .lead
      | .demand => c = .power ∧ m = .lead
      | .grant => c = .power ∧ m = .all
      | .data => c = .control ∨ c = .service := by
  unfold legalClassMode
  cases k <;> simp only [Bool.and_eq_true, Bool.or_eq_true, beq_iff_eq]

theorem legalDest_iff (m : Mode) (lo hi : Nat) :
    legalDest m lo hi = true ↔
      match m with
      | .neighbour => lo = 1 ∨ lo = 2
      | .position => lo = hi ∧ 1 ≤ lo ∧ lo ≤ 32
      | .range => 1 ≤ lo ∧ lo ≤ hi ∧ hi ≤ 32
      | .all | .lead => True := by
  unfold legalDest
  cases m <;> simp only [Bool.and_eq_true, Bool.or_eq_true, beq_iff_eq, decide_eq_true_iff, and_assoc]

/-- The entries of a sweep stand behind its six leading bytes. -/
theorem parseSweep_isSome {bs : List Byte} (h : 6 ≤ bs.length) :
    (parseSweep bs).isSome = (parseEntries (bs.getD 5 0).toNat (bs.drop 6)).isSome := by
  match bs, h with
  | i0 :: i1 :: i2 :: i3 :: n :: m :: rest, _ =>
    show (match parseEntries m.toNat rest with | some xs => _ | none => none : Option SweepBody).isSome =
      (parseEntries m.toNat rest).isSome
    cases parseEntries m.toNat rest <;> rfl

theorem headerSanity_iff (t : Telegram) (k : Sane) :
    headerSanity t = some k ↔
      (kindOf t.hdr.kind.toNat = some k.kind ∧ headerCls t.hdr = some k.cls ∧ headerMode t.hdr = some k.mode) ∧
        t.hdr.plen.toNat = t.payload.length ∧ legalLength k.kind t.payload.length ∧
        ((k.kind = .sweep ∨ k.kind = .ret) → (parseSweep t.payload).isSome) ∧
        legalClassMode k.kind k.cls k.mode ∧ t.hdr.hops.toNat ≤ 31 ∧ (k.mode = .neighbour → t.hdr.hops = 0) ∧
        t.hdr.srcPos.toNat ≤ 32 ∧ (k.mode ≠ .neighbour → t.hdr.srcPos ≠ 0) ∧
        legalDest k.mode t.hdr.dstLo.toNat t.hdr.dstHi.toNat := by
  constructor
  · intro h
    unfold headerSanity at h
    split at h
    · next hk hc hm =>
      split at h
      · next hall =>
        obtain rfl := Option.some.inj h
        exact ⟨⟨hk, hc, hm⟩, hall⟩
      · cases h
    · cases h
  · rintro ⟨⟨hk, hc, hm⟩, hall⟩
    unfold headerSanity
    rw [hk, hc, hm]
    exact if_pos hall

/-! ## Sweep entries (R52) -/

theorem entrySane_iff (x : SweepEntry) (spare : Byte) :
    entrySane x spare = true ↔ (x.towardEnd = 1 ∨ x.towardEnd = 2) ∧ x.doorsLeft.toNat ≤ 4 ∧ x.doorsRight.toNat ≤ 4 ∧
      x.flags.toNat < 16 ∧ x.r.toNat ≤ 200 ∧ spare = 0 := by
  unfold entrySane
  simp only [Bool.and_eq_true, Bool.or_eq_true, beq_iff_eq, decide_eq_true_iff, and_assoc]

/-- What R52 asks of the entry that begins at a byte of the list. -/
def entryLegalAt (bs : List Byte) (at0 : Nat) : Prop :=
  (bs.getD (at0 + 4) 0 = 1 ∨ bs.getD (at0 + 4) 0 = 2) ∧ (bs.getD (at0 + 5) 0).toNat ≤ 4 ∧
    (bs.getD (at0 + 6) 0).toNat ≤ 4 ∧ (bs.getD (at0 + 7) 0).toNat < 16 ∧ (bs.getD (at0 + 8) 0).toNat ≤ 200 ∧
    bs.getD (at0 + 11) 0 = 0

theorem entryLegalAt_drop (bs : List Byte) (n at0 : Nat) : entryLegalAt (bs.drop n) at0 ↔ entryLegalAt bs (n + at0) := by
  unfold entryLegalAt
  simp only [List.getD_eq_getElem?_getD, List.getElem?_drop, Nat.add_assoc]

/-- One entry more: its own bytes, then the rest. -/
theorem parseEntries_succ_isSome {m : Nat} {bs : List Byte} (h : 12 ≤ bs.length) :
    (parseEntries (m + 1) bs).isSome = true ↔ entryLegalAt bs 0 ∧ (parseEntries m (bs.drop 12)).isSome = true := by
  match bs, h with
  | i0 :: i1 :: i2 :: i3 :: te :: dl :: dr :: fl :: r :: f :: s :: sp :: rest, _ =>
    have hsane := entrySane_iff { id := joinIdent i0 i1 i2 i3, towardEnd := te, doorsLeft := dl, doorsRight := dr
                                  flags := fl, r := r, f := f, s := s } sp
    show (if entrySane _ sp then (match parseEntries m rest with | some xs => some _ | none => none) else none :
      Option (List SweepEntry)).isSome = true ↔ _ ∧ (parseEntries m rest).isSome = true
    by_cases hs : entrySane { id := joinIdent i0 i1 i2 i3, towardEnd := te, doorsLeft := dl, doorsRight := dr
                              flags := fl, r := r, f := f, s := s } sp = true
    · rw [if_pos hs]
      refine Iff.trans ?_ (and_iff_right (hsane.mp hs)).symm
      cases parseEntries m rest <;> exact Iff.rfl
    · rw [if_neg hs]
      exact ⟨fun h => absurd h Bool.false_ne_true, fun h => absurd (hsane.mpr h.1) hs⟩

theorem parseEntries_isSome_length {m : Nat} {bs : List Byte} (h : (parseEntries m bs).isSome = true) :
    bs.length = 12 * m := by
  obtain ⟨xs, hxs⟩ := Option.isSome_iff_exists.mp h
  rw [parseEntries_length hxs, parseEntries_count hxs]

theorem parseEntries_isSome_iff (m : Nat) (bs : List Byte) :
    (parseEntries m bs).isSome = true ↔ bs.length = 12 * m ∧ ∀ i < m, entryLegalAt bs (12 * i) := by
  induction m generalizing bs with
  | zero =>
    refine ⟨fun h => ⟨parseEntries_isSome_length h, fun i hi => absurd hi (Nat.not_lt_zero i)⟩, fun ⟨h, _⟩ => ?_⟩
    rw [List.length_eq_zero_iff.mp h]
    rfl
  | succ m ih =>
    by_cases hlen : bs.length = 12 * (m + 1)
    · rw [parseEntries_succ_isSome (by omega), ih, List.length_drop, Nat.forall_lt_succ_left]
      have hrest : (∀ i < m, entryLegalAt (bs.drop 12) (12 * i)) ↔ ∀ i < m, entryLegalAt bs (12 * (i + 1)) :=
        forall₂_congr fun i _ => by rw [entryLegalAt_drop, Nat.mul_succ, Nat.add_comm]
      have hdrop : bs.length - 12 = 12 * m := by omega
      rw [hrest]
      exact ⟨fun ⟨hfirst, _, hnext⟩ => ⟨hlen, hfirst, hnext⟩, fun ⟨_, hfirst, hnext⟩ => ⟨hfirst, hdrop, hnext⟩⟩
    · exact ⟨fun h => absurd (parseEntries_isSome_length h) hlen, fun h => absurd h.1 hlen⟩

theorem headerSanity_holds : Says.HeaderSanity := by
  unfold Says.HeaderSanity
  refine ⟨fun t k => ?_, fun m xs => parseEntries_isSome_iff m xs⟩
  intro n lo hi
  refine (headerSanity_iff t k).trans ?_
  unfold headerCls headerMode
  rw [kindOf_iff, clsOf_iff, modeOf_iff, legalLength_iff, legalClassMode_iff, legalDest_iff]
  refine and_congr_right fun _ => and_congr_right fun _ => and_congr_right fun hlen => and_congr_left fun _ => ?_
  refine forall_congr' fun hk => ?_
  have hlong : 6 ≤ t.payload.length := by
    obtain hk | hk := hk
    all_goals
      rw [hk] at hlen
      have := hlen.1
      omega
  rw [parseSweep_isSome hlong]

/-! ## A telegram discarded (R14, R53, R54) -/

theorem exec_telegramRow {p : Port} {t : Telegram} {c : Instr} (h : c ∈ telegramRows p t) (s : State) :
    exec c s = .next (runEvent (fun e => e.arrive p t) s) := by
  unfold telegramRows familyRows at h
  simp only [List.cons_append, List.nil_append, List.mem_cons, List.not_mem_nil, or_false] at h
  rcases h with rfl | rfl | rfl | rfl | rfl | rfl | rfl | rfl | rfl | rfl | rfl | rfl | rfl <;> rfl

section
variable {e : Ev} {p : Port} {t : Telegram} {k : Sane}

theorem Ev.arrive_down (h : (e.port p).state ≠ .up) : e.arrive p t = e :=
  if_neg fun hu => h ((Blocks.isUp_iff e.toBlocks p).mp hu)

theorem Ev.arrive_insane (h : (e.port p).state = .up) (hs : headerSanity t = none) :
    e.arrive p t = e.setPort p (e.port p).addError := by
  refine (if_pos ((Blocks.isUp_iff e.toBlocks p).mpr h)).trans ?_
  rw [hs]

theorem Ev.arrive_general (h : e.toBlocks.hears p t k) (hf : sweepFamily k.kind = false) :
    e.arrive p t =
      if e.toBlocks.genOk k t.hdr.gen then
        match e.consist.table with
        | none => e.handOff p k.kind t
        | some tb =>
          if k.mode = .neighbour then e.handOff p k.kind t
          else if sideOk tb p t.hdr.srcPos.toNat then e.route tb p k t
          else e.drop p k.cls
      else e.drop p k.cls := by
  refine (Ev.arrive_heard h).trans (if_neg ?_)
  rw [hf]
  exact Bool.false_ne_true

theorem Ev.arrive_badGen (h : e.toBlocks.hears p t k) (hf : sweepFamily k.kind = false)
    (hg : e.toBlocks.genOk k t.hdr.gen = false) : e.arrive p t = e.drop p k.cls := by
  refine (Ev.arrive_general h hf).trans (if_neg ?_)
  rw [hg]
  exact Bool.false_ne_true

theorem Ev.arrive_badSide {tb : LiveTable} (h : e.toBlocks.hears p t k) (hf : sweepFamily k.kind = false)
    (ht : e.consist.table = some tb) (hg : t.hdr.gen = tb.gen) (hm : k.mode ≠ .neighbour)
    (hs : sideOk tb p t.hdr.srcPos.toNat = false) : e.arrive p t = e.drop p k.cls := by
  refine (Ev.arrive_general h hf).trans ((if_pos ?_).trans ?_)
  · rw [Blocks.genOk_table ht, hg, beq_self_eq_true]
  · rw [ht]
    refine (if_neg hm).trans (if_neg ?_)
    rw [hs]
    exact Bool.false_ne_true

theorem Blocks.genOk_alone {b : Blocks} (ht : b.consist.table = none) (g : Byte) :
    b.genOk k g = true ↔ g = 0 ∧ k.kind = .data ∧ k.mode = .neighbour := by
  unfold Blocks.genOk
  rw [ht, Bool.and_eq_true, Bool.and_eq_true, beq_iff_eq, beq_iff_eq, beq_iff_eq, and_assoc]

end

theorem sideOk_iff (tb : LiveTable) (p : Port) (src : Nat) :
    sideOk tb p src = true ↔
      (p = tb.toward ∧ 1 ≤ src ∧ src < tb.pos) ∨ (p ≠ tb.toward ∧ tb.pos < src ∧ src ≤ tb.entries.length) := by
  unfold sideOk
  by_cases hp : p = tb.toward
  · rw [if_pos hp, Bool.and_eq_true, decide_eq_true_iff, decide_eq_true_iff]
    exact ⟨fun h => .inl ⟨hp, h⟩, fun h => h.elim And.right fun h => absurd hp h.1⟩
  · rw [if_neg hp, Bool.and_eq_true, decide_eq_true_iff, decide_eq_true_iff]
    exact ⟨fun h => .inr ⟨hp, h⟩, fun h => h.elim (fun h => absurd h.1 hp) And.right⟩

theorem arrivalDiscards_holds : Says.ArrivalDiscards := by
  unfold Says.ArrivalDiscards
  intro p t s c hc lp inc
  have hrow := exec_telegramRow hc s
  have hport : (Ev.start s.blk).port p = lp := rfl
  have hinc : ∀ w, satInc w = inc w := satInc_eq
  refine ⟨fun h => hrow.trans (congrArg Host.Outcome.next (runEvent_stays (Ev.arrive_down h))),
    fun h hs => hrow.trans (congrArg Host.Outcome.next ?_), fun k hh hf => ?_⟩
  · refine (runEvent_setPort (g := fun e => e.arrive p t) (Ev.arrive_insane h hs)).trans ?_
    rw [hport]
    unfold LinkPort.addError
    rw [hinc]
  · intro i dropped
    have hdrop : (Ev.start s.blk).arrive p t = (Ev.start s.blk).drop p k.cls → dropped := fun h => by
      refine hrow.trans (congrArg Host.Outcome.next
        ((runEvent_setPort (g := fun e => e.arrive p t) h).trans ?_))
      rw [hport]
      unfold LinkPort.addDrop
      rw [hinc]
    refine ⟨fun ht hb => hdrop (Ev.arrive_badGen hh hf (Bool.eq_false_iff.mpr fun hg => ?_)), fun tb ht => ?_⟩
    · obtain ⟨hgen, hkind, hmode⟩ := (Blocks.genOk_alone ht _).mp hg
      rcases hb with hb | hb | hb
      · exact hb hgen
      · exact hb hkind
      · exact hb hmode
    · intro src
      have hside : ∀ q : ¬ ((p = tb.toward ∧ 1 ≤ src ∧ src < tb.pos) ∨
          (p ≠ tb.toward ∧ tb.pos < src ∧ src ≤ tb.entries.length)), sideOk tb p src = false := fun q =>
        Bool.eq_false_iff.mpr fun h => q ((sideOk_iff tb p src).mp h)
      refine ⟨fun hg => hdrop (Ev.arrive_badGen hh hf ?_),
        fun hg hm hp hsrc => hdrop (Ev.arrive_badSide hh hf ht hg hm (hside ?_)),
        fun hg hm hp hsrc => hdrop (Ev.arrive_badSide hh hf ht hg hm (hside ?_))⟩
      · exact (Blocks.genOk_table ht _).trans (beq_eq_false_iff_ne.mpr hg)
      · rintro (⟨-, h1, h2⟩ | ⟨hne, -⟩)
        · omega
        · exact hne hp
      · rintro (⟨heq, -⟩ | ⟨-, h1, h2⟩)
        · exact hp heq
        · omega

/-- Settles O52: header sanity, and what becomes of a telegram that does not pass. -/
theorem arrival : Obligations.Arrival :=
  ⟨headerSanity_holds, arrivalDiscards_holds⟩

end Sys2Proof.Machine
end


section
/-! PROOF. Where an admitted telegram goes (R53 to R58). -/

namespace Sys2Proof.Machine

/-! ## The positions beyond a car (R54 to R56) -/

theorem beyondOf_iff {tb : LiveTable} (h1 : 1 ≤ tb.pos) (p : Port) (d : Nat) :
    (beyondOf tb p).1 ≤ d ∧ d ≤ (beyondOf tb p).2 ↔
      (p = tb.toward ∧ tb.pos < d ∧ d ≤ tb.entries.length) ∨ (p ≠ tb.toward ∧ 1 ≤ d ∧ d < tb.pos) := by
  unfold beyondOf
  by_cases hp : p = tb.toward
  · rw [if_pos hp]
    exact ⟨fun h => .inl ⟨hp, h⟩, fun h => h.elim And.right fun h => absurd hp h.1⟩
  · rw [if_neg hp]
    refine ⟨fun ⟨hlo, hhi⟩ => .inr ⟨hp, hlo, ?_⟩, fun h => h.elim (fun h => absurd h.1 hp) fun ⟨_, hlo, hhi⟩ => ⟨hlo, ?_⟩⟩
    · dsimp only at hhi
      omega
    · dsimp only
      omega

/-- The positions beyond a car are positions of the train. -/
theorem beyondOf_range {tb : LiveTable} (hn : tb.pos ≤ tb.entries.length) (p : Port) :
    1 ≤ (beyondOf tb p).1 ∧ (beyondOf tb p).2 ≤ tb.entries.length := by
  unfold beyondOf
  split
  · exact ⟨by dsimp only; omega, Nat.le_refl _⟩
  · exact ⟨Nat.le_refl _, by dsimp only; omega⟩

theorem dueForward_iff {tb : LiveTable} (hn : tb.pos ≤ tb.entries.length) (p : Port) (m : Mode) (lo hi : Nat) :
    dueForward tb p m lo hi = true ↔
      ∃ d, (match m with
        | .neighbour => False
        | .position => d = lo
        | .range => lo ≤ d ∧ d ≤ hi
        | .all => 1 ≤ d ∧ d ≤ tb.entries.length
        | .lead => d = 1) ∧ (beyondOf tb p).1 ≤ d ∧ d ≤ (beyondOf tb p).2 := by
  obtain ⟨ha, hz⟩ := beyondOf_range hn p
  unfold dueForward
  cases m with
  | neighbour => exact ⟨fun h => absurd h Bool.false_ne_true, fun ⟨_, h, _⟩ => h.elim⟩
  | position =>
    dsimp only
    rw [Bool.and_eq_true, decide_eq_true_iff, decide_eq_true_iff]
    exact ⟨fun h => ⟨lo, rfl, h⟩, fun ⟨d, hd, h⟩ => hd ▸ h⟩
  | range =>
    dsimp only
    rw [decide_eq_true_iff]
    exact ⟨fun h => ⟨max (beyondOf tb p).1 lo, by omega⟩, fun ⟨d, h⟩ => by omega⟩
  | all =>
    dsimp only
    rw [decide_eq_true_iff]
    exact ⟨fun h => ⟨(beyondOf tb p).1, by omega⟩, fun ⟨d, h⟩ => by omega⟩
  | lead =>
    dsimp only
    rw [Bool.and_eq_true, decide_eq_true_iff, decide_eq_true_iff]
    exact ⟨fun h => ⟨1, rfl, h⟩, fun ⟨d, hd, h⟩ => hd ▸ h⟩

theorem routing_holds : Says.Routing := by
  unfold Says.Routing
  intro tb p m lo hi src h1 hn q n target
  refine ⟨sideOk_iff tb p src, ?_, ?_, fun e c t => ⟨fun h => if_pos h, fun h => if_neg h⟩⟩
  · unfold addressed
    cases m with
    | neighbour => exact ⟨fun _ => .inl rfl, fun _ => rfl⟩
    | position => exact beq_iff_eq.trans ⟨fun h => .inr h.symm, fun h => (h.resolve_left Mode.noConfusion).symm⟩
    | range =>
      refine Iff.trans ?_ ⟨fun h => .inr h, fun h => h.resolve_left Mode.noConfusion⟩
      dsimp only
      rw [Bool.and_eq_true, decide_eq_true_iff, decide_eq_true_iff]
    | all => exact ⟨fun _ => .inr ⟨h1, hn⟩, fun _ => rfl⟩
    | lead => exact beq_iff_eq.trans ⟨fun h => .inr h, fun h => h.resolve_left Mode.noConfusion⟩
  · refine (dueForward_iff hn p m lo hi).trans (exists_congr fun d => ?_)
    rw [beyondOf_iff h1]
    cases m <;> exact Iff.rfl

/-! ## DATA (R58) -/

/-- DATA has no consumer but the delivery map. -/
theorem Ev.handOff_data (e : Ev) (p : Port) (t : Telegram) : e.handOff p .data t = e.offer (portNum p) t := rfl

theorem dataTelegram_holds : Says.DataTelegram := by
  unfold Says.DataTelegram
  intro p t k s hh hk run here
  have hrow : ∀ g : Ev → Ev, (Ev.start s.blk).arrive p t = g (Ev.start s.blk) → run g := fun g hg =>
    congrArg Host.Outcome.next (runEvent_doing hg)
  have hoff : (Ev.start s.blk).handOff p k.kind t = here (Ev.start s.blk) := by
    rw [hk, Ev.handOff_data]
  have hf : sweepFamily k.kind = false := by
    rw [hk]
    rfl
  refine ⟨fun ht hg hm => hrow here ?_, fun tb ht ha => ?_⟩
  · refine (Ev.arrive_general hh hf).trans ((if_pos ((Blocks.genOk_alone ht _).mpr ⟨hg, hk, hm⟩)).trans ?_)
    rw [show (Ev.start s.blk).consist.table = none from ht]
    exact hoff
  · intro lo hi on
    have harr := Ev.arrive_routed (e := Ev.start s.blk) hh ht ha
    have hsum : k.kind ≠ .summary := by
      rw [hk]
      decide
    refine ⟨fun hm => hrow here (harr.trans ((Ev.route_here (by rw [hm]; rfl)).trans ((if_neg ?_).trans hoff))),
      fun hm => ⟨fun hhere hon => hrow _ (harr.trans ((Ev.route_here hhere).trans ((if_pos hon).trans ?_))),
        fun hhere hon => hrow here (harr.trans ((Ev.route_here hhere).trans ((if_neg ?_).trans hoff))),
        fun hhere hon => hrow on (harr.trans (Ev.route_on hsum hhere hon)),
        fun hhere hon => hrow _ (harr.trans (Ev.route_none hhere hon))⟩⟩
    · rw [hm]
      exact Bool.false_ne_true
    · rw [hoff]
    · rw [show dueForward tb p k.mode t.hdr.dstLo.toNat t.hdr.dstHi.toNat = false from hon]
      exact Bool.false_ne_true

/-- Settles O53: routing, and a DATA telegram. -/
theorem relaying : Obligations.Relaying :=
  ⟨routing_holds, dataTelegram_holds⟩

end Sys2Proof.Machine
end


section
/-! PROOF. Telegrams and slot bodies read back (R169, R183, 11.3, 11.6). -/

namespace Sys2Proof.Machine

/-! ## Headers and payloads of fixed length -/

theorem parseHeader_headerBytes (h : Header) : parseHeader (headerBytes h) = some h := by
  show some { h with seq := packWord (loByte h.seq) (hiByte h.seq), plen := packWord (loByte h.plen) (hiByte h.plen)
                     srcId := joinIdent (loByte (loHalf h.srcId)) (hiByte (loHalf h.srcId)) (loByte (hiHalf h.srcId))
                       (hiByte (hiHalf h.srcId)) } = some h
  rw [packWord_bytes, packWord_bytes, joinIdent_bytes]

theorem parseFail_failPayload (b : FailBody) : parseFail (failPayload b) = some b := by
  show some { b with leadId := joinIdent (loByte (loHalf b.leadId)) (hiByte (loHalf b.leadId))
                       (loByte (hiHalf b.leadId)) (hiByte (hiHalf b.leadId)) } = some b
  rw [joinIdent_bytes]

theorem parseConfirm_confirmPayload (b : ConfirmBody) : parseConfirm (confirmPayload b) = some b := by
  show some { b with leadId := joinIdent (loByte (loHalf b.leadId)) (hiByte (loHalf b.leadId))
                       (loByte (hiHalf b.leadId)) (hiByte (hiHalf b.leadId)) } = some b
  rw [joinIdent_bytes]

/-- A flag read back from bit 0 of its byte. -/
theorem getLsbD_byte_flagNat (b : Bool) : (byte (flagNat b)).getLsbD 0 = b := by cases b <;> rfl

theorem parseBeacon_beaconPayload (b : BeaconBody) : parseBeacon (beaconPayload b) = some b := by
  show some { b with number := packWord (loByte b.number) (hiByte b.number)
                     leadId := joinIdent (loByte (loHalf b.leadId)) (hiByte (loHalf b.leadId))
                       (loByte (hiHalf b.leadId)) (hiByte (hiHalf b.leadId))
                     stationary := (byte (flagNat b.stationary)).getLsbD 0 } = some b
  rw [packWord_bytes, joinIdent_bytes, getLsbD_byte_flagNat]

theorem parseDoor_doorPayload (b : DoorBody) : parseDoor (doorPayload b) = some b := by
  show some { b with stationary := (byte (flagNat b.stationary)).getLsbD 0 } = some b
  rw [getLsbD_byte_flagNat]

theorem parseDemand_demandPayload (b : DemandBody) : parseDemand (demandPayload b) = some b := by
  show some { b with draw := packWord (loByte b.draw) (hiByte b.draw) } = some b
  rw [packWord_bytes]

theorem parseGrant_grantPayload (b : GrantBody) : parseGrant (grantPayload b) = some b := by
  show some { b with number := packWord (loByte b.number) (hiByte b.number)
                     bEff := packWord (loByte b.bEff) (hiByte b.bEff) } = some b
  rw [packWord_bytes, packWord_bytes]

/-! ## Sweeps -/

theorem toNat_byte {n : Nat} (h : n ≤ 255) : (byte n).toNat = n := Nat.mod_eq_of_lt (Nat.lt_succ_of_le h)

theorem toNat_word {n : Nat} (h : n ≤ 65535) : (word n).toNat = n := Nat.mod_eq_of_lt (Nat.lt_succ_of_le h)

theorem parseEntries_entryBytes {xs : List SweepEntry} (h : ∀ x ∈ xs, entrySane x 0 = true) :
    parseEntries xs.length (xs.flatMap entryBytes) = some xs := by
  induction xs with
  | nil => rfl
  | cons x xs ih =>
    have hx : ({ x with id := joinIdent (loByte (loHalf x.id)) (hiByte (loHalf x.id)) (loByte (hiHalf x.id))
                          (hiByte (hiHalf x.id)) } : SweepEntry) = x := by rw [joinIdent_bytes]
    have hsplit : ∀ y, y = ({ x with id := joinIdent (loByte (loHalf x.id)) (hiByte (loHalf x.id))
                                             (loByte (hiHalf x.id)) (hiByte (hiHalf x.id)) } : SweepEntry) →
        parseEntries (x :: xs).length ((x :: xs).flatMap entryBytes) =
          if entrySane y 0 then
            match parseEntries xs.length (xs.flatMap entryBytes) with
            | some ys => some (y :: ys)
            | none => none
          else none := fun y hy => by
      rw [hy]
      rfl
    rw [hsplit x hx.symm, ih fun y hy => h y (List.mem_cons_of_mem x hy)]
    exact if_pos (h x List.mem_cons_self)

theorem parseSweep_sweepPayload {b : SweepBody} (hlen : b.entries.length ≤ 255)
    (hsane : ∀ x ∈ b.entries, entrySane x 0 = true) : parseSweep (sweepPayload b) = some b := by
  show (match parseEntries (byte b.entries.length).toNat (b.entries.flatMap entryBytes) with
    | some xs => some { leadId := joinIdent (loByte (loHalf b.leadId)) (hiByte (loHalf b.leadId))
                          (loByte (hiHalf b.leadId)) (hiByte (hiHalf b.leadId)), number := b.number, entries := xs }
    | none => none) = some b
  rw [toNat_byte hlen, parseEntries_entryBytes hsane, joinIdent_bytes]

/-! ## Summaries -/

theorem map_toNat_byte {ps : List Nat} (h : ∀ p ∈ ps, p ≤ 255) : (ps.map byte).map BitVec.toNat = ps := by
  rw [List.map_map]
  exact (List.map_congr_left fun p hp => toNat_byte (h p hp)).trans (List.map_id ps)

theorem parseSummary_summaryPayload {t : Total} (hc : t.covered ≤ 255) (ho : t.openCount ≤ 65535)
    (hf : t.faulted ≤ 65535) (hr : t.refused ≤ 255) (hlen : t.list.length ≤ 4) (hlist : ∀ p ∈ t.list, p ≤ 255) :
    parseSummary (summaryPayload t) = some (t, t.list.length) := by
  have hfour : (t.list.map byte ++ List.replicate (4 - t.list.length) 0).length = 4 := by
    rw [List.length_append, List.length_map, List.length_replicate]
    omega
  obtain ⟨l0, l1, l2, l3, hl⟩ : ∃ l0 l1 l2 l3, t.list.map byte ++ List.replicate (4 - t.list.length) 0 = [l0, l1, l2, l3] :=
    List.length_eq_four.mp hfour
  have htake : ([l0, l1, l2, l3].take t.list.length).map BitVec.toNat = t.list := by
    rw [← hl, List.take_left' (List.length_map _)]
    exact map_toNat_byte hlist
  unfold summaryPayload
  rw [hl]
  show some (({ beacon := packWord (loByte t.beacon) (hiByte t.beacon), covered := (byte t.covered).toNat
                openCount := (packWord (loByte (word t.openCount)) (hiByte (word t.openCount))).toNat
                faulted := (packWord (loByte (word t.faulted)) (hiByte (word t.faulted))).toNat
                refused := (byte t.refused).toNat
                list := ([l0, l1, l2, l3].take (byte t.list.length).toNat).map BitVec.toNat
                more := (byte (flagNat t.more)).getLsbD 0 } : Total), (byte t.list.length).toNat) = some (t, t.list.length)
  rw [packWord_bytes, packWord_bytes, packWord_bytes, toNat_byte hc, toNat_word ho, toNat_word hf, toNat_byte hr,
    toNat_byte (show t.list.length ≤ 255 by omega), htake, getLsbD_byte_flagNat]

/-! ## Telegrams -/

theorem headerBytes_length (h : Header) : (headerBytes h).length = 16 := rfl

theorem take_telegramBytes (t : Telegram) : (telegramBytes t).take 16 = headerBytes t.hdr :=
  List.take_left' (headerBytes_length t.hdr)

theorem drop_telegramBytes (t : Telegram) : (telegramBytes t).drop 16 = t.payload :=
  List.drop_left' (headerBytes_length t.hdr)

theorem parseTelegram_telegramBytes {t : Telegram} (h : t.hdr.plen.toNat ≤ 464) :
    parseTelegram (telegramBytes t) = some t := by
  unfold parseTelegram
  rw [take_telegramBytes, parseHeader_headerBytes, drop_telegramBytes]
  exact if_pos h

theorem telegramsReadBack_holds : Says.TelegramsReadBack :=
  ⟨parseHeader_headerBytes, fun _ hlen hsane => parseSweep_sweepPayload hlen hsane, parseFail_failPayload,
    parseConfirm_confirmPayload, parseBeacon_beaconPayload, parseDoor_doorPayload, parseDemand_demandPayload,
    parseGrant_grantPayload, fun _ hc ho hf hr hlen hlist => parseSummary_summaryPayload hc ho hf hr hlen hlist,
    fun _ _ h => parseTelegram_telegramBytes h⟩

/-! ## Request words and slot bodies -/

theorem requestWord_toNat {req : ReqKind} {kind : Nat} {tag : Byte} (hk : kind < 16) :
    (requestWord req kind tag).toNat =
      (match req with | .idle => 0 | .posted => 1 | .abandon => 2) * 4096 + kind * 256 + tag.toNat := by
  have htag := tag.isLt
  unfold requestWord
  rw [Nat.mod_eq_of_lt hk]
  refine toNat_word ?_
  cases req <;> dsimp only <;> omega

theorem parseRequest_requestWord {req : ReqKind} (hreq : req ≠ .idle) {kind : Nat} (tag : Byte) (hk : kind < 16) :
    parseRequest (requestWord req kind tag) = { req := req, kind := kind, tag := tag } := by
  have htag := tag.isLt
  have hw := requestWord_toNat (req := req) (tag := tag) hk
  have hlo : loByte (requestWord req kind tag) = tag := by
    refine BitVec.eq_of_toNat_eq ?_
    rw [loByte_toNat, hw]
    cases req <;> dsimp only <;> omega
  have hkind : (requestWord req kind tag).toNat / 256 % 16 = kind := by
    rw [hw]
    cases req <;> dsimp only <;> omega
  unfold parseRequest
  rw [hlo, hkind, hw]
  cases req with
  | idle => exact absurd rfl hreq
  | posted =>
    dsimp only
    rw [if_pos (by omega)]
  | abandon =>
    dsimp only
    rw [if_neg (by omega), if_pos (by omega)]

theorem slotBodiesReadBack_holds : Says.SlotBodiesReadBack := by
  unfold Says.SlotBodiesReadBack
  refine ⟨fun kind tag hk => ⟨parseRequest_requestWord ReqKind.noConfusion tag hk,
    parseRequest_requestWord ReqKind.noConfusion tag hk⟩, fun c n tag kind body h hlen => ?_⟩
  unfold slotRow at h
  cases c with
  | adoptProfile | setCab | startSweep | door | monitor | restoreLink =>
    cases h
    rfl
  | send _ _ cls mode lo hi flags plen payload =>
    cases h
    refine parseCmd_send cls mode lo hi flags plen payload ?_
    rw [List.length_append, List.length_append] at hlen
    exact hlen
  | heatSet _ _ setpoint gain boost =>
    cases h
    exact parseCmd_heatSet setpoint gain boost
  | budget _ _ b vlow =>
    cases h
    exact parseCmd_budget b vlow
  | _ => cases h

end Sys2Proof.Machine
end


section
/-! PROOF. Frames read back from line levels, and the framing errors of a receiver (R1, R2). -/

namespace Sys2Proof.Machine

/-! ## Beginnings of frames -/

theorem parseHeader_short {bs : List Byte} (h : bs.length < 16) : parseHeader bs = none := by
  unfold parseHeader
  split
  · exact absurd h (Nat.lt_irrefl 16)
  · rfl

theorem frameOpens_telegram (rest : List Byte) :
    frameOpens (0x55 :: 0xD3 :: telegramType :: rest) =
      match parseHeader (rest.take 16) with
      | some h => decide (h.plen.toNat ≤ Config.maxPayload)
      | none => true := rfl

/-- A telegram and what follows it, cut anywhere, may be a frame's beginning. -/
theorem frameOpens_telegramBytes {t : Telegram} (h : t.hdr.plen.toNat ≤ 464) (tail : List Byte) (n : Nat) :
    frameOpens (0x55 :: 0xD3 :: telegramType :: (telegramBytes t ++ tail).take n) = true := by
  rw [frameOpens_telegram]
  by_cases hn : 16 ≤ n
  · have hhead : ((telegramBytes t ++ tail).take n).take 16 = headerBytes t.hdr := by
      rw [List.take_take, Nat.min_eq_left hn]
      unfold telegramBytes
      rw [List.append_assoc]
      exact List.take_left' (headerBytes_length t.hdr)
    rw [hhead, parseHeader_headerBytes]
    exact decide_eq_true h
  · have hshort : (((telegramBytes t ++ tail).take n).take 16).length < 16 := by
      rw [List.length_take, List.length_take]
      omega
    rw [parseHeader_short hshort]

/-- A frame may be one at every character when it may be from its type on. -/
theorem frameOpens_take {type : Byte} {rest : List Byte}
    (h : ∀ n, frameOpens (0x55 :: 0xD3 :: type :: rest.take n) = true) :
    ∀ n, frameOpens ((0x55 :: 0xD3 :: type :: rest).take n) = true
  | 0 => rfl
  | 1 => rfl
  | 2 => rfl
  | n + 3 => h n

/-! ## Whole frames (R1, R2) -/

theorem receivedBytes_type (p : Port) (type : Byte) (rest : List Byte) :
    receivedBytes p (0x55 :: 0xD3 :: type :: rest) =
      match rest.drop (rest.length - 2) with
      | [lo, hi] => receivedFrame p type (rest.take (rest.length - 2)) (packWord lo hi)
      | _ => .framingError p := rfl

theorem receivedBytes_frame (p : Port) (type : Byte) (content : List Byte) (w : Word) :
    receivedBytes p (0x55 :: 0xD3 :: type :: (content ++ wordBytes w)) = receivedFrame p type content w := by
  have hlen : (content ++ wordBytes w).length - 2 = content.length := by
    rw [List.length_append]
    rfl
  rw [receivedBytes_type, hlen, List.drop_left, List.take_left]
  exact congrArg (receivedFrame p type content) (packWord_bytes w)

theorem receivedFrame_mark (p : Port) (i : Ident) (x : Byte) :
    receivedFrame p markType (markContent i x) (frameCheck (markType :: markContent i x)) = .markReceived p i x := by
  have hcontent : markContent i x =
      [loByte (loHalf i), hiByte (loHalf i), loByte (hiHalf i), hiByte (hiHalf i), x] := rfl
  unfold receivedFrame
  rw [if_pos rfl, hcontent]
  dsimp only
  rw [if_pos rfl, joinIdent_bytes]

theorem receivedFrame_telegram {p : Port} {t : Telegram} (h : t.hdr.plen.toNat ≤ 464)
    (hlen : t.hdr.plen.toNat = t.payload.length) (w : Word) :
    receivedFrame p telegramType (telegramBytes t) w =
      if w = frameCheck (telegramType :: telegramBytes t) then telegramRow p t else .frameCheckFailure p := by
  unfold receivedFrame
  rw [if_neg (by decide), if_pos rfl, parseTelegram_telegramBytes h]
  exact if_neg (by omega)

theorem receive_wholeFrame (p : Port) (idle : Nat) (more : List Bool) {type : Byte} {content : List Byte} {w : Word}
    (h : ∀ n, frameOpens (0x55 :: 0xD3 :: type :: (content ++ wordBytes w).take n) = true) :
    receive p (.takes idle []) (frameBits ([0x55, 0xD3, type] ++ content ++ wordBytes w) ++ more) =
      receivedFrame p type content w :: receive p (.takes 30 []) more := by
  have hframe := receive_frame p (0x55 :: 0xD3 :: type :: (content ++ wordBytes w)) idle more (List.cons_ne_nil _ _)
    fun n _ => frameOpens_take h n
  rw [receivedBytes_frame] at hframe
  exact hframe

theorem framesReadBack_holds : Says.FramesReadBack := by
  unfold Says.FramesReadBack
  refine ⟨fun type content => ⟨?_, Nat.mul_comm _ _⟩, fun p idle more => ?_⟩
  · rw [frameBits_length, frameBytes_length]
    omega
  · intro brings
    refine ⟨fun i x => ?_, fun t h hlen => ⟨?_, fun w hw => ?_⟩⟩
    · refine (receive_wholeFrame p idle more (type := markType) (content := markContent i x) fun n => rfl).trans ?_
      rw [receivedFrame_mark]
    · refine (receive_wholeFrame p idle more (type := telegramType) (content := telegramBytes t)
        (frameOpens_telegramBytes h _)).trans ?_
      rw [receivedFrame_telegram h hlen, if_pos rfl]
    · refine (receive_wholeFrame p idle more (frameOpens_telegramBytes h _)).trans ?_
      rw [receivedFrame_telegram h hlen, if_neg hw]

/-! ## Characters that are no frame's (R2) -/

section
variable (p : Port) (idle : Nat) (more : List Bool)

/-- The character after which the run can be no frame. -/
theorem receive_badChar {init : List Byte} {b : Byte} (hopen : ∀ n ≤ init.length, frameOpens (init.take n) = true)
    (hbad : frameOpens (init ++ [b]) = false) :
    receive p (.takes idle []) ((init ++ [b]).flatMap charBits ++ more) =
      .framingError p :: receive p (.waits 0) more := by
  have hlast : ∀ k, receive p (.takes k init) (charBits b ++ more) = .framingError p :: receive p (.waits 0) more :=
    fun k => by
    have htake : takeChar p init (some b) = (.waits 0, [.framingError p]) := if_neg (by rw [hbad]; decide)
    rw [receive_char, htake]
    rfl
  rw [List.flatMap_append, List.append_assoc, List.flatMap_singleton]
  by_cases hi : init = []
  · rw [hi] at hlast ⊢
    exact hlast idle
  · exact (receive_chars p init _ idle [] hi hopen).trans (hlast 0)

/-- Twenty-one bits of idle line end every run. -/
theorem receive_quiet21 (b : Byte) (bs : List Byte) :
    receive p (.takes 0 (b :: bs)) (List.replicate 21 idleLevel ++ more) =
      receivedBytes p (b :: bs) :: receive p (.takes 21 []) more := by
  by_cases h : (b :: bs).length < 2
  · have hends : ∀ j, runEnds j (b :: bs) = decide (idleLimit ≤ j) := fun j => if_pos h
    refine (receive_runEnd p b bs 19 (List.replicate 1 idleLevel ++ more) 0 (fun j hj => ?_) ?_).trans ?_
    · rw [hends]
      exact decide_eq_false (by unfold idleLimit; omega)
    · rw [hends]
      rfl
    · rw [receive_rest]
  · have hends : ∀ j, runEnds j (b :: bs) = decide (idleLimit < j) := fun j => if_neg h
    refine receive_runEnd p b bs 20 more 0 (fun j hj => ?_) ?_
    · rw [hends]
      exact decide_eq_false (by unfold idleLimit; omega)
    · rw [hends]
      rfl

/-- A run of characters that idle line ends. -/
theorem receive_run {bs : List Byte} (hne : bs ≠ []) (hopen : ∀ n ≤ bs.length, frameOpens (bs.take n) = true) :
    receive p (.takes idle []) (bs.flatMap charBits ++ List.replicate 21 idleLevel ++ more) =
      receivedBytes p bs :: receive p (.takes 21 []) more := by
  rw [List.append_assoc, receive_chars p bs _ idle [] hne hopen, List.nil_append]
  match bs, hne with
  | b :: bs, _ => exact receive_quiet21 p more b bs

end

/-! ## Frames cut short (R2) -/

/-- The content of a frame that R2 knows. -/
def frameContent (type : Byte) (content : List Byte) : Prop :=
  (type = markType ∧ content.length = 5) ∨
    (type = telegramType ∧ ∃ t : Telegram, content = telegramBytes t ∧ t.hdr.plen.toNat = t.payload.length ∧
      t.payload.length ≤ 464)

theorem receivedFrame_mark_short (p : Port) {content : List Byte} (h : content.length < 5) (w : Word) :
    receivedFrame p markType content w = .framingError p := by
  unfold receivedFrame
  rw [if_pos rfl]
  split
  · exact absurd h (Nat.lt_irrefl 5)
  · rfl

theorem receivedFrame_telegram_short (p : Port) {t : Telegram} (hlen : t.hdr.plen.toNat = t.payload.length)
    (h464 : t.payload.length ≤ 464) {n : Nat} (hn : n < (telegramBytes t).length) (w : Word) :
    receivedFrame p telegramType ((telegramBytes t).take n) w = .framingError p := by
  have htotal : (telegramBytes t).length = 16 + t.payload.length := List.length_append
  unfold receivedFrame
  rw [if_neg (by decide), if_pos rfl]
  by_cases h16 : 16 ≤ n
  · have hparse : parseTelegram ((telegramBytes t).take n) =
        some { hdr := t.hdr, payload := ((telegramBytes t).take n).drop 16 } := by
      unfold parseTelegram
      rw [List.take_take, Nat.min_eq_left h16, take_telegramBytes, parseHeader_headerBytes]
      exact if_pos (show t.hdr.plen.toNat ≤ 464 by omega)
    rw [hparse]
    refine if_pos ?_
    rw [List.length_drop, List.length_take]
    show min n (telegramBytes t).length - 16 < t.hdr.plen.toNat
    omega
  · have hparse : parseTelegram ((telegramBytes t).take n) = none := by
      unfold parseTelegram
      rw [parseHeader_short (by rw [List.length_take, List.length_take]; omega)]
    rw [hparse]

theorem receivedFrame_short (p : Port) {type : Byte} {content : List Byte} (h : frameContent type content) {n : Nat}
    (hn : n < content.length) (w : Word) : receivedFrame p type (content.take n) w = .framingError p := by
  obtain ⟨rfl, h5⟩ | ⟨rfl, t, rfl, hlen, h464⟩ := h
  · exact receivedFrame_mark_short p (by rw [List.length_take]; omega) w
  · exact receivedFrame_telegram_short p hlen h464 hn w

theorem frameContent_pos {type : Byte} {content : List Byte} (h : frameContent type content) : 0 < content.length := by
  obtain ⟨-, h5⟩ | ⟨-, t, rfl, -⟩ := h
  · omega
  · exact Nat.succ_pos _

/-- Every frame cut short is one framing error. -/
theorem receivedBytes_short (p : Port) {type : Byte} {content : List Byte} (h : frameContent type content) {n : Nat}
    (hn : n < content.length + 5) : receivedBytes p ((frameBytes type content).take n) = .framingError p := by
  have hpos := frameContent_pos h
  match n, hn with
  | 0, _ => rfl
  | 1, _ => rfl
  | 2, _ => rfl
  | m + 3, hn =>
    have hlen : ((content ++ wordBytes (frameCheck (type :: content))).take m).length = m := by
      rw [List.length_take, List.length_append]
      exact Nat.min_eq_left (show m ≤ content.length + 2 by omega)
    have hcontent : ((content ++ wordBytes (frameCheck (type :: content))).take m).take (m - 2) =
        content.take (m - 2) := by
      rw [List.take_take, Nat.min_eq_left (Nat.sub_le m 2), List.take_append_of_le_length (by omega)]
    show receivedBytes p (0x55 :: 0xD3 :: type :: (content ++ wordBytes (frameCheck (type :: content))).take m) = _
    rw [receivedBytes_type, hlen, hcontent]
    split
    · exact receivedFrame_short p h (by omega) _
    · rfl

theorem frameOpens_frameBytes {type : Byte} {content : List Byte} (h : frameContent type content) (n : Nat) :
    frameOpens ((frameBytes type content).take n) = true := by
  obtain ⟨rfl, -⟩ | ⟨rfl, t, rfl, hlen, h464⟩ := h
  · exact frameOpens_take (fun n => rfl) n
  · exact frameOpens_take (frameOpens_telegramBytes (by omega) _) n

theorem receive_shortFrame (p : Port) (idle : Nat) (more : List Bool) {type : Byte} {content : List Byte}
    (h : frameContent type content) {n : Nat} (h1 : 1 ≤ n) (hn : n < content.length + 5) :
    receive p (.takes idle []) (((frameBytes type content).take n).flatMap charBits ++
        List.replicate 21 idleLevel ++ more) =
      .framingError p :: receive p (.takes 21 []) more := by
  have hne : (frameBytes type content).take n ≠ [] := by
    refine List.ne_nil_of_length_pos ?_
    rw [List.length_take, frameBytes_length]
    omega
  refine (receive_run p idle more hne fun k _ => ?_).trans ?_
  · rw [List.take_take]
    exact frameOpens_frameBytes h _
  · rw [receivedBytes_short p h hn]

/-! ## Framing errors (R2) -/

theorem frameOpens_start (n : Nat) : frameOpens (([0x55] : List Byte).take n) = true := by
  match n with
  | 0 => rfl
  | n + 1 =>
    rw [List.take_succ_cons, List.take_nil]
    rfl

theorem frameOpens_delimiter (n : Nat) : frameOpens (([0x55, 0xD3] : List Byte).take n) = true := by
  match n with
  | 0 => rfl
  | 1 => rfl
  | n + 2 =>
    rw [List.take_succ_cons, List.take_succ_cons, List.take_nil]
    rfl

theorem frameOpens_badType {b : Byte} (hm : b ≠ markType) (ht : b ≠ telegramType) :
    frameOpens [0x55, 0xD3, b] = false := by
  show (true && (b == markType || (b == telegramType && true))) = false
  rw [beq_eq_false_iff_ne.mpr hm, beq_eq_false_iff_ne.mpr ht]
  rfl

/-- A header that names too long a payload ends the run at its last byte. -/
theorem receive_longPayload (p : Port) (idle : Nat) (more : List Bool) {h : Header} (hp : 464 < h.plen.toNat) :
    receive p (.takes idle []) (([0x55, 0xD3, telegramType] ++ headerBytes h).flatMap charBits ++ more) =
      .framingError p :: receive p (.waits 0) more := by
  refine receive_badChar p idle more (init := 0x55 :: 0xD3 :: telegramType :: (headerBytes h).take 15)
    (b := hiByte (hiHalf h.srcId)) (fun n _ => frameOpens_take (fun n => ?_) n) ?_
  · have hshort : ((((headerBytes h).take 15).take n).take 16).length < 16 := by
      rw [List.length_take, List.length_take, List.length_take]
      omega
    rw [frameOpens_telegram, parseHeader_short hshort]
  · have hopens : frameOpens (0x55 :: 0xD3 :: telegramType :: headerBytes h) = decide (h.plen.toNat ≤ 464) := by
      rw [frameOpens_telegram, show (headerBytes h).take 16 = headerBytes h from rfl, parseHeader_headerBytes]
      rfl
    exact hopens.trans (decide_eq_false (Nat.not_le.mpr hp))

/-- A run outside a frame ends at two character times of idle line. -/
theorem receive_loneStart (p : Port) (idle : Nat) (more : List Bool) :
    receive p (.takes idle []) (([0x55] : List Byte).flatMap charBits ++ List.replicate 20 idleLevel ++ more) =
      .framingError p :: receive p (.takes 20 []) more := by
  have hends : ∀ j, runEnds j [0x55] = decide (idleLimit ≤ j) := fun j => rfl
  rw [List.append_assoc]
  refine (receive_chars p [0x55] _ idle [] (List.cons_ne_nil _ _) fun n _ => frameOpens_start n).trans ?_
  refine receive_runEnd p 0x55 [] 19 more 0 (fun j hj => ?_) ?_
  · rw [hends]
    exact decide_eq_false (by unfold idleLimit; omega)
  · rw [hends]
    rfl

theorem framingErrors_holds : Says.FramingErrors := by
  unfold Says.FramingErrors
  intro p idle more low line quiet fails
  refine ⟨fun b0 b1 b2 b3 b4 b5 b6 b7 chars => rfl, fun b hb => ?_, fun b hb => ?_, fun b hm ht => ?_,
    fun h hp => receive_longPayload p idle more hp,
    fun type content n h1 hn h => receive_shortFrame p idle more h h1 hn, receive_loneStart p idle more,
    fun n hn => ?_, fun k => rfl⟩
  · refine receive_badChar p idle more (init := []) (fun n _ => ?_) (beq_eq_false_iff_ne.mpr hb)
    rw [List.take_nil]
    rfl
  · exact receive_badChar p idle more (init := [0x55]) (fun n _ => frameOpens_start n) (beq_eq_false_iff_ne.mpr hb)
  · exact receive_badChar p idle more (init := [0x55, 0xD3]) (fun n _ => frameOpens_delimiter n)
      (frameOpens_badType hm ht)
  · exact (receive_wait p n more 0 (by decide) (by unfold idleLimit; omega)).trans (by rw [Nat.zero_add])

/-- Settles O54: telegrams, slot bodies and frames read back, and the framing errors. -/
theorem readBack : Obligations.ReadBack :=
  ⟨telegramsReadBack_holds, slotBodiesReadBack_holds, framesReadBack_holds, framingErrors_holds⟩

end Sys2Proof.Machine
end
